-- ==== Sys2Proof/Word.lean ====
section
/-! DEFINITION. The byte and word types, and the names that instruction operands are made of
(registers, pairs, conditions, ALU operations). Names only: what they do stands in Decode.lean and Machine/. -/
namespace Sys2Proof

/-- REG_WIDTH = 8 (00_scope.md R6): a register, a memory byte, an opcode, an immediate, a port number. -/
abbrev Byte := BitVec 8

/-- PAIR_WIDTH = ADDR_WIDTH = 16 (00_scope.md R6): PC, SP, a register pair, an address. -/
abbrev Word := BitVec 16

/-- The seven general registers (10_state.md R20). Code 6, M, is no register (30_encoding.md R73). -/
inductive Reg8 where
  | b | c | d | e | h | l | a
  deriving DecidableEq, Repr

/-- The pair operands of LXI, INX, DCX and DAD: code 3 is SP (30_encoding.md R74). -/
inductive Pair where
  | bc | de | hl | sp
  deriving DecidableEq, Repr

/-- The pair operands of PUSH and POP: code 3 is PSW (30_encoding.md R74). -/
inductive StackPair where
  | bc | de | hl | psw
  deriving DecidableEq, Repr

/-- The eight conditions (30_encoding.md R76). -/
inductive Cond where
  | nz | z | nc | c | po | pe | p | m
  deriving DecidableEq, Repr

/-- The eight operations of the register, memory and immediate ALU groups (30_encoding.md R75, field ALU). -/
inductive AluOp where
  | add | adc | sub | sbb | ana | xra | ora | cmp
  deriving DecidableEq, Repr

/-- The second operand of an ALU instruction: a register, the byte at HL, or the immediate d8 (00_scope.md R12). -/
inductive Operand8 where
  | reg (r : Reg8)
  | mem
  | imm (d8 : Byte)
  deriving DecidableEq, Repr

/-- The five flags held in F (10_state.md R25). -/
inductive Flag where
  | s | z | ac | p | cy
  deriving DecidableEq, Repr

end Sys2Proof
end

