-- ==== Sys2Proof/Syntax.lean ====
section
/-! DEFINITION. The instructions: one constructor per row of spec/opcode_table.json,
the rows with an operand first (Lean's compiler has no tag for a constructor with fields past the 244th).
Each docstring gives the row's spelling, its opcode byte and the rule that says what it does. -/
namespace Sys2Proof

/-- The 246 instructions (30_encoding.md R79, R84). -/
inductive Instr where
  /-- LXI B,d16: 0x01, R105. -/
  | lxiB (d16 : Word)
  /-- MVI B,d8: 0x06, R103. -/
  | mviB (d8 : Byte)
  /-- MVI C,d8: 0x0E, R103. -/
  | mviC (d8 : Byte)
  /-- LXI D,d16: 0x11, R105. -/
  | lxiD (d16 : Word)
  /-- MVI D,d8: 0x16, R103. -/
  | mviD (d8 : Byte)
  /-- MVI E,d8: 0x1E, R103. -/
  | mviE (d8 : Byte)
  /-- LXI H,d16: 0x21, R105. -/
  | lxiH (d16 : Word)
  /-- SHLD a16: 0x22, R109. -/
  | shld (a16 : Word)
  /-- MVI H,d8: 0x26, R103. -/
  | mviH (d8 : Byte)
  /-- LHLD a16: 0x2A, R108. -/
  | lhld (a16 : Word)
  /-- MVI L,d8: 0x2E, R103. -/
  | mviL (d8 : Byte)
  /-- LXI SP,d16: 0x31, R105. -/
  | lxiSp (d16 : Word)
  /-- STA a16: 0x32, R107. -/
  | sta (a16 : Word)
  /-- MVI M,d8: 0x36, R104. -/
  | mviM (d8 : Byte)
  /-- LDA a16: 0x3A, R106. -/
  | lda (a16 : Word)
  /-- MVI A,d8: 0x3E, R103. -/
  | mviA (d8 : Byte)
  /-- JNZ a16: 0xC2, R182. -/
  | jnz (a16 : Word)
  /-- JMP a16: 0xC3, R181. -/
  | jmp (a16 : Word)
  /-- CNZ a16: 0xC4, R184. -/
  | cnz (a16 : Word)
  /-- ADI d8: 0xC6, R125. -/
  | adi (d8 : Byte)
  /-- JZ a16: 0xCA, R182. -/
  | jz (a16 : Word)
  /-- CZ a16: 0xCC, R184. -/
  | cz (a16 : Word)
  /-- CALL a16: 0xCD, R183. -/
  | call (a16 : Word)
  /-- ACI d8: 0xCE, R128. -/
  | aci (d8 : Byte)
  /-- JNC a16: 0xD2, R182. -/
  | jnc (a16 : Word)
  /-- OUT d8: 0xD3, R207. -/
  | outPort (port : Byte)
  /-- CNC a16: 0xD4, R184. -/
  | cnc (a16 : Word)
  /-- SUI d8: 0xD6, R131. -/
  | sui (d8 : Byte)
  /-- JC a16: 0xDA, R182. -/
  | jc (a16 : Word)
  /-- IN d8: 0xDB, R206. -/
  | inPort (port : Byte)
  /-- CC a16: 0xDC, R184. -/
  | cc (a16 : Word)
  /-- SBI d8: 0xDE, R134. -/
  | sbi (d8 : Byte)
  /-- JPO a16: 0xE2, R182. -/
  | jpo (a16 : Word)
  /-- CPO a16: 0xE4, R184. -/
  | cpo (a16 : Word)
  /-- ANI d8: 0xE6, R153. -/
  | ani (d8 : Byte)
  /-- JPE a16: 0xEA, R182. -/
  | jpe (a16 : Word)
  /-- CPE a16: 0xEC, R184. -/
  | cpe (a16 : Word)
  /-- XRI d8: 0xEE, R156. -/
  | xri (d8 : Byte)
  /-- JP a16: 0xF2, R182. -/
  | jp (a16 : Word)
  /-- CP a16: 0xF4, R184. -/
  | cp (a16 : Word)
  /-- ORI d8: 0xF6, R159. -/
  | ori (d8 : Byte)
  /-- JM a16: 0xFA, R182. -/
  | jm (a16 : Word)
  /-- CM a16: 0xFC, R184. -/
  | cm (a16 : Word)
  /-- CPI d8: 0xFE, R162. -/
  | cpi (d8 : Byte)
  /-- NOP: 0x00, R213. -/
  | nop
  /-- STAX B: 0x02, R111. -/
  | staxB
  /-- INX B: 0x03, R139. -/
  | inxB
  /-- INR B: 0x04, R135. -/
  | inrB
  /-- DCR B: 0x05, R137. -/
  | dcrB
  /-- RLC: 0x07, R163. -/
  | rlc
  /-- DAD B: 0x09, R141. -/
  | dadB
  /-- LDAX B: 0x0A, R110. -/
  | ldaxB
  /-- DCX B: 0x0B, R140. -/
  | dcxB
  /-- INR C: 0x0C, R135. -/
  | inrC
  /-- DCR C: 0x0D, R137. -/
  | dcrC
  /-- RRC: 0x0F, R164. -/
  | rrc
  /-- STAX D: 0x12, R111. -/
  | staxD
  /-- INX D: 0x13, R139. -/
  | inxD
  /-- INR D: 0x14, R135. -/
  | inrD
  /-- DCR D: 0x15, R137. -/
  | dcrD
  /-- RAL: 0x17, R165. -/
  | ral
  /-- DAD D: 0x19, R141. -/
  | dadD
  /-- LDAX D: 0x1A, R110. -/
  | ldaxD
  /-- DCX D: 0x1B, R140. -/
  | dcxD
  /-- INR E: 0x1C, R135. -/
  | inrE
  /-- DCR E: 0x1D, R137. -/
  | dcrE
  /-- RAR: 0x1F, R166. -/
  | rar
  /-- RIM: 0x20, R210. -/
  | rim
  /-- INX H: 0x23, R139. -/
  | inxH
  /-- INR H: 0x24, R135. -/
  | inrH
  /-- DCR H: 0x25, R137. -/
  | dcrH
  /-- DAA: 0x27, R142. -/
  | daa
  /-- DAD H: 0x29, R141. -/
  | dadH
  /-- DCX H: 0x2B, R140. -/
  | dcxH
  /-- INR L: 0x2C, R135. -/
  | inrL
  /-- DCR L: 0x2D, R137. -/
  | dcrL
  /-- CMA: 0x2F, R167. -/
  | cma
  /-- SIM: 0x30, R211. -/
  | sim
  /-- INX SP: 0x33, R139. -/
  | inxSp
  /-- INR M: 0x34, R136. -/
  | inrM
  /-- DCR M: 0x35, R138. -/
  | dcrM
  /-- STC: 0x37, R169. -/
  | stc
  /-- DAD SP: 0x39, R141. -/
  | dadSp
  /-- DCX SP: 0x3B, R140. -/
  | dcxSp
  /-- INR A: 0x3C, R135. -/
  | inrA
  /-- DCR A: 0x3D, R137. -/
  | dcrA
  /-- CMC: 0x3F, R168. -/
  | cmc
  /-- MOV B,B: 0x40, R100. -/
  | movBB
  /-- MOV B,C: 0x41, R100. -/
  | movBC
  /-- MOV B,D: 0x42, R100. -/
  | movBD
  /-- MOV B,E: 0x43, R100. -/
  | movBE
  /-- MOV B,H: 0x44, R100. -/
  | movBH
  /-- MOV B,L: 0x45, R100. -/
  | movBL
  /-- MOV B,M: 0x46, R101. -/
  | movBM
  /-- MOV B,A: 0x47, R100. -/
  | movBA
  /-- MOV C,B: 0x48, R100. -/
  | movCB
  /-- MOV C,C: 0x49, R100. -/
  | movCC
  /-- MOV C,D: 0x4A, R100. -/
  | movCD
  /-- MOV C,E: 0x4B, R100. -/
  | movCE
  /-- MOV C,H: 0x4C, R100. -/
  | movCH
  /-- MOV C,L: 0x4D, R100. -/
  | movCL
  /-- MOV C,M: 0x4E, R101. -/
  | movCM
  /-- MOV C,A: 0x4F, R100. -/
  | movCA
  /-- MOV D,B: 0x50, R100. -/
  | movDB
  /-- MOV D,C: 0x51, R100. -/
  | movDC
  /-- MOV D,D: 0x52, R100. -/
  | movDD
  /-- MOV D,E: 0x53, R100. -/
  | movDE
  /-- MOV D,H: 0x54, R100. -/
  | movDH
  /-- MOV D,L: 0x55, R100. -/
  | movDL
  /-- MOV D,M: 0x56, R101. -/
  | movDM
  /-- MOV D,A: 0x57, R100. -/
  | movDA
  /-- MOV E,B: 0x58, R100. -/
  | movEB
  /-- MOV E,C: 0x59, R100. -/
  | movEC
  /-- MOV E,D: 0x5A, R100. -/
  | movED
  /-- MOV E,E: 0x5B, R100. -/
  | movEE
  /-- MOV E,H: 0x5C, R100. -/
  | movEH
  /-- MOV E,L: 0x5D, R100. -/
  | movEL
  /-- MOV E,M: 0x5E, R101. -/
  | movEM
  /-- MOV E,A: 0x5F, R100. -/
  | movEA
  /-- MOV H,B: 0x60, R100. -/
  | movHB
  /-- MOV H,C: 0x61, R100. -/
  | movHC
  /-- MOV H,D: 0x62, R100. -/
  | movHD
  /-- MOV H,E: 0x63, R100. -/
  | movHE
  /-- MOV H,H: 0x64, R100. -/
  | movHH
  /-- MOV H,L: 0x65, R100. -/
  | movHL
  /-- MOV H,M: 0x66, R101. -/
  | movHM
  /-- MOV H,A: 0x67, R100. -/
  | movHA
  /-- MOV L,B: 0x68, R100. -/
  | movLB
  /-- MOV L,C: 0x69, R100. -/
  | movLC
  /-- MOV L,D: 0x6A, R100. -/
  | movLD
  /-- MOV L,E: 0x6B, R100. -/
  | movLE
  /-- MOV L,H: 0x6C, R100. -/
  | movLH
  /-- MOV L,L: 0x6D, R100. -/
  | movLL
  /-- MOV L,M: 0x6E, R101. -/
  | movLM
  /-- MOV L,A: 0x6F, R100. -/
  | movLA
  /-- MOV M,B: 0x70, R102. -/
  | movMB
  /-- MOV M,C: 0x71, R102. -/
  | movMC
  /-- MOV M,D: 0x72, R102. -/
  | movMD
  /-- MOV M,E: 0x73, R102. -/
  | movME
  /-- MOV M,H: 0x74, R102. -/
  | movMH
  /-- MOV M,L: 0x75, R102. -/
  | movML
  /-- HLT: 0x76, R212. -/
  | hlt
  /-- MOV M,A: 0x77, R102. -/
  | movMA
  /-- MOV A,B: 0x78, R100. -/
  | movAB
  /-- MOV A,C: 0x79, R100. -/
  | movAC
  /-- MOV A,D: 0x7A, R100. -/
  | movAD
  /-- MOV A,E: 0x7B, R100. -/
  | movAE
  /-- MOV A,H: 0x7C, R100. -/
  | movAH
  /-- MOV A,L: 0x7D, R100. -/
  | movAL
  /-- MOV A,M: 0x7E, R101. -/
  | movAM
  /-- MOV A,A: 0x7F, R100. -/
  | movAA
  /-- ADD B: 0x80, R123. -/
  | addB
  /-- ADD C: 0x81, R123. -/
  | addC
  /-- ADD D: 0x82, R123. -/
  | addD
  /-- ADD E: 0x83, R123. -/
  | addE
  /-- ADD H: 0x84, R123. -/
  | addH
  /-- ADD L: 0x85, R123. -/
  | addL
  /-- ADD M: 0x86, R124. -/
  | addM
  /-- ADD A: 0x87, R123. -/
  | addA
  /-- ADC B: 0x88, R126. -/
  | adcB
  /-- ADC C: 0x89, R126. -/
  | adcC
  /-- ADC D: 0x8A, R126. -/
  | adcD
  /-- ADC E: 0x8B, R126. -/
  | adcE
  /-- ADC H: 0x8C, R126. -/
  | adcH
  /-- ADC L: 0x8D, R126. -/
  | adcL
  /-- ADC M: 0x8E, R127. -/
  | adcM
  /-- ADC A: 0x8F, R126. -/
  | adcA
  /-- SUB B: 0x90, R129. -/
  | subB
  /-- SUB C: 0x91, R129. -/
  | subC
  /-- SUB D: 0x92, R129. -/
  | subD
  /-- SUB E: 0x93, R129. -/
  | subE
  /-- SUB H: 0x94, R129. -/
  | subH
  /-- SUB L: 0x95, R129. -/
  | subL
  /-- SUB M: 0x96, R130. -/
  | subM
  /-- SUB A: 0x97, R129. -/
  | subA
  /-- SBB B: 0x98, R132. -/
  | sbbB
  /-- SBB C: 0x99, R132. -/
  | sbbC
  /-- SBB D: 0x9A, R132. -/
  | sbbD
  /-- SBB E: 0x9B, R132. -/
  | sbbE
  /-- SBB H: 0x9C, R132. -/
  | sbbH
  /-- SBB L: 0x9D, R132. -/
  | sbbL
  /-- SBB M: 0x9E, R133. -/
  | sbbM
  /-- SBB A: 0x9F, R132. -/
  | sbbA
  /-- ANA B: 0xA0, R151. -/
  | anaB
  /-- ANA C: 0xA1, R151. -/
  | anaC
  /-- ANA D: 0xA2, R151. -/
  | anaD
  /-- ANA E: 0xA3, R151. -/
  | anaE
  /-- ANA H: 0xA4, R151. -/
  | anaH
  /-- ANA L: 0xA5, R151. -/
  | anaL
  /-- ANA M: 0xA6, R152. -/
  | anaM
  /-- ANA A: 0xA7, R151. -/
  | anaA
  /-- XRA B: 0xA8, R154. -/
  | xraB
  /-- XRA C: 0xA9, R154. -/
  | xraC
  /-- XRA D: 0xAA, R154. -/
  | xraD
  /-- XRA E: 0xAB, R154. -/
  | xraE
  /-- XRA H: 0xAC, R154. -/
  | xraH
  /-- XRA L: 0xAD, R154. -/
  | xraL
  /-- XRA M: 0xAE, R155. -/
  | xraM
  /-- XRA A: 0xAF, R154. -/
  | xraA
  /-- ORA B: 0xB0, R157. -/
  | oraB
  /-- ORA C: 0xB1, R157. -/
  | oraC
  /-- ORA D: 0xB2, R157. -/
  | oraD
  /-- ORA E: 0xB3, R157. -/
  | oraE
  /-- ORA H: 0xB4, R157. -/
  | oraH
  /-- ORA L: 0xB5, R157. -/
  | oraL
  /-- ORA M: 0xB6, R158. -/
  | oraM
  /-- ORA A: 0xB7, R157. -/
  | oraA
  /-- CMP B: 0xB8, R160. -/
  | cmpB
  /-- CMP C: 0xB9, R160. -/
  | cmpC
  /-- CMP D: 0xBA, R160. -/
  | cmpD
  /-- CMP E: 0xBB, R160. -/
  | cmpE
  /-- CMP H: 0xBC, R160. -/
  | cmpH
  /-- CMP L: 0xBD, R160. -/
  | cmpL
  /-- CMP M: 0xBE, R161. -/
  | cmpM
  /-- CMP A: 0xBF, R160. -/
  | cmpA
  /-- RNZ: 0xC0, R186. -/
  | rnz
  /-- POP B: 0xC1, R202. -/
  | popB
  /-- PUSH B: 0xC5, R200. -/
  | pushB
  /-- RST 0: 0xC7, R187. -/
  | rst0
  /-- RZ: 0xC8, R186. -/
  | rz
  /-- RET: 0xC9, R185. -/
  | ret
  /-- RST 1: 0xCF, R187. -/
  | rst1
  /-- RNC: 0xD0, R186. -/
  | rnc
  /-- POP D: 0xD1, R202. -/
  | popD
  /-- PUSH D: 0xD5, R200. -/
  | pushD
  /-- RST 2: 0xD7, R187. -/
  | rst2
  /-- RC: 0xD8, R186. -/
  | rc
  /-- RST 3: 0xDF, R187. -/
  | rst3
  /-- RPO: 0xE0, R186. -/
  | rpo
  /-- POP H: 0xE1, R202. -/
  | popH
  /-- XTHL: 0xE3, R204. -/
  | xthl
  /-- PUSH H: 0xE5, R200. -/
  | pushH
  /-- RST 4: 0xE7, R187. -/
  | rst4
  /-- RPE: 0xE8, R186. -/
  | rpe
  /-- PCHL: 0xE9, R188. -/
  | pchl
  /-- XCHG: 0xEB, R112. -/
  | xchg
  /-- RST 5: 0xEF, R187. -/
  | rst5
  /-- RP: 0xF0, R186. -/
  | rp
  /-- POP PSW: 0xF1, R203. -/
  | popPsw
  /-- DI: 0xF3, R209. -/
  | di
  /-- PUSH PSW: 0xF5, R201. -/
  | pushPsw
  /-- RST 6: 0xF7, R187. -/
  | rst6
  /-- RM: 0xF8, R186. -/
  | rm
  /-- SPHL: 0xF9, R205. -/
  | sphl
  /-- EI: 0xFB, R208. -/
  | ei
  /-- RST 7: 0xFF, R187. -/
  | rst7
  deriving DecidableEq, Repr

end Sys2Proof
end

