-- ==== Sys2Proof/Config.lean ====
section
/-! DEFINITION. The implementation parameters of 00_scope.md R6. They are plain data a machine carries and
nothing changes (log 1), so that every statement holds for every value of them. -/
namespace Sys2Proof

/-- INIT_REGS: the values of A, B, C, D, E, H, L, F and SP at reset (00_scope.md R6, 70_reset_and_hazards.md R260). -/
structure InitRegs where
  a : Byte
  b : Byte
  c : Byte
  d : Byte
  e : Byte
  h : Byte
  l : Byte
  f : Byte
  sp : Word
  deriving DecidableEq, Repr

/-- The default of INIT_REGS, "default all zero" (00_scope.md R6). DESIGN CHOICE, unsafe: log 2. -/
def InitRegs.zero : InitRegs :=
  { a := 0, b := 0, c := 0, d := 0, e := 0, h := 0, l := 0, f := 0, sp := 0 }

/-- The parameters a machine is built with (00_scope.md R6). -/
structure Config where
  /-- MEM_SIZE: bytes exist at addresses 0 .. memSize-1. -/
  memSize : Nat
  /-- BP_CAPACITY: the most addresses the breakpoint set can hold. -/
  bpCapacity : Nat
  /-- ENTRY: the PC after a reset (70_reset_and_hazards.md R261). -/
  entry : Word
  /-- INIT_REGS. -/
  initRegs : InitRegs
  deriving DecidableEq, Repr

/-- The parameters of Machine.State.reset: MEM_SIZE and INIT_REGS at the spec's defaults (R6);
ENTRY 0x0000 and BP_CAPACITY 16 are DESIGN CHOICE, unsafe: logs 3 and 4. -/
def Config.default : Config :=
  { memSize := 0x10000, bpCapacity := 16, entry := 0x0000, initRegs := InitRegs.zero }

/-- A program image the host loads: bytes from one start address on (20_memory.md R62, R67). -/
structure Image where
  start : Nat
  bytes : List Byte
  deriving DecidableEq, Repr

end Sys2Proof
end

