-- ==== Sys2Proof/WellFormed.lean ====
section
/-! DEFINITION. The static checks. An instruction's operands carry their widths in their types (d8 : BitVec 8,
a16 and d16 : BitVec 16) and every register, pair, condition and restart number is a constructor, so no term of
Instr is ill-formed and Instr needs no check (log 14). What can be ill-formed, and is checked here, is the machine's
parameters and the image the host loads; a byte string that is no instruction is refused by decode (Decode.lean). -/
namespace Sys2Proof

/-- 1 <= MEM_SIZE <= 0x10000 (00_scope.md R6). -/
def Config.wellFormed (c : Config) : Bool :=
  decide (1 ≤ c.memSize) && decide (c.memSize ≤ 0x10000)

/-- The image's bytes all stand at addresses that exist (20_memory.md R50, R62). -/
def Image.wellFormed (c : Config) (img : Image) : Bool :=
  decide (img.start + img.bytes.length ≤ c.memSize)

end Sys2Proof
end

