-- ==== Sys2Proof/Decode.lean ====
section
/-! DEFINITION. The decoder, by the quadrants and fields of 30_encoding.md section 3, and after it the encoder,
row by row from spec/opcode_table.json. The two are written from different tables of the spec, so that a slip in
one shows as a failed round trip. -/
namespace Sys2Proof

/-! ### Byte order and fields -/

/-- lo(v) = v[7:0] (00_scope.md R8). -/
def lo (v : Word) : Byte := v.extractLsb' 0 8

/-- hi(v) = v[15:8] (00_scope.md R8). -/
def hi (v : Word) : Byte := v.extractLsb' 8 8

/-- pair(h, l) = (h << 8) | l (00_scope.md R8). -/
def pair (h l : Byte) : Word := h ++ l

/-- The 3-bit field of an opcode byte whose lowest bit is bit k (30_encoding.md R75). -/
def field3 (op : Byte) (k : Nat) : Fin 8 := ⟨op.toNat / 2 ^ k % 8, Nat.mod_lt _ (by decide)⟩

/-- Bits 7:6 of an opcode byte, its quadrant (30_encoding.md section 3). -/
def quadrant (op : Byte) : Fin 4 := ⟨op.toNat / 64 % 4, Nat.mod_lt _ (by decide)⟩

/-- A register code: B=0, C=1, D=2, E=3, H=4, L=5, A=7; code 6, M, is no register (30_encoding.md R73). -/
def Reg8.ofCode : Fin 8 → Option Reg8
  | 0 => some .b
  | 1 => some .c
  | 2 => some .d
  | 3 => some .e
  | 4 => some .h
  | 5 => some .l
  | 6 => none
  | 7 => some .a

/-- The operand a 3-bit source code names: a register, or for code 6 the byte at HL (30_encoding.md R73). -/
def Operand8.ofCode (k : Fin 8) : Operand8 :=
  match Reg8.ofCode k with
  | some r => .reg r
  | none => .mem

/-- The pair code, bits 5:4, for LXI, INX, DCX and DAD (30_encoding.md R74, R75), from bits 5:3. -/
def Pair.ofCode : Fin 8 → Pair
  | 0 | 1 => .bc
  | 2 | 3 => .de
  | 4 | 5 => .hl
  | 6 | 7 => .sp

/-- The pair code, bits 5:4, for PUSH and POP (30_encoding.md R74, R75), from bits 5:3. -/
def StackPair.ofCode : Fin 8 → StackPair
  | 0 | 1 => .bc
  | 2 | 3 => .de
  | 4 | 5 => .hl
  | 6 | 7 => .psw

/-- The condition code CCC (30_encoding.md R76). -/
def Cond.ofCode : Fin 8 → Cond
  | 0 => .nz
  | 1 => .z
  | 2 => .nc
  | 3 => .c
  | 4 => .po
  | 5 => .pe
  | 6 => .p
  | 7 => .m

/-- The operation code ALU (30_encoding.md R75). -/
def AluOp.ofCode : Fin 8 → AluOp
  | 0 => .add
  | 1 => .adc
  | 2 => .sub
  | 3 => .sbb
  | 4 => .ana
  | 5 => .xra
  | 6 => .ora
  | 7 => .cmp

/-! ### Families of constructors by their operands -/

/-- MOV r1,r2 by its registers (R100). -/
def Instr.movReg : Reg8 → Reg8 → Instr
  | .b, .b => .movBB
  | .b, .c => .movBC
  | .b, .d => .movBD
  | .b, .e => .movBE
  | .b, .h => .movBH
  | .b, .l => .movBL
  | .b, .a => .movBA
  | .c, .b => .movCB
  | .c, .c => .movCC
  | .c, .d => .movCD
  | .c, .e => .movCE
  | .c, .h => .movCH
  | .c, .l => .movCL
  | .c, .a => .movCA
  | .d, .b => .movDB
  | .d, .c => .movDC
  | .d, .d => .movDD
  | .d, .e => .movDE
  | .d, .h => .movDH
  | .d, .l => .movDL
  | .d, .a => .movDA
  | .e, .b => .movEB
  | .e, .c => .movEC
  | .e, .d => .movED
  | .e, .e => .movEE
  | .e, .h => .movEH
  | .e, .l => .movEL
  | .e, .a => .movEA
  | .h, .b => .movHB
  | .h, .c => .movHC
  | .h, .d => .movHD
  | .h, .e => .movHE
  | .h, .h => .movHH
  | .h, .l => .movHL
  | .h, .a => .movHA
  | .l, .b => .movLB
  | .l, .c => .movLC
  | .l, .d => .movLD
  | .l, .e => .movLE
  | .l, .h => .movLH
  | .l, .l => .movLL
  | .l, .a => .movLA
  | .a, .b => .movAB
  | .a, .c => .movAC
  | .a, .d => .movAD
  | .a, .e => .movAE
  | .a, .h => .movAH
  | .a, .l => .movAL
  | .a, .a => .movAA

/-- MOV r,M by its register (R101). -/
def Instr.movFromM : Reg8 → Instr
  | .b => .movBM
  | .c => .movCM
  | .d => .movDM
  | .e => .movEM
  | .h => .movHM
  | .l => .movLM
  | .a => .movAM

/-- MOV M,r by its register (R102). -/
def Instr.movToM : Reg8 → Instr
  | .b => .movMB
  | .c => .movMC
  | .d => .movMD
  | .e => .movME
  | .h => .movMH
  | .l => .movML
  | .a => .movMA

/-- MVI r,d8 by its register (R103). -/
def Instr.mviReg : Reg8 → Byte → Instr
  | .b, d8 => .mviB d8
  | .c, d8 => .mviC d8
  | .d, d8 => .mviD d8
  | .e, d8 => .mviE d8
  | .h, d8 => .mviH d8
  | .l, d8 => .mviL d8
  | .a, d8 => .mviA d8

/-- INR r by its register (R135). -/
def Instr.inrReg : Reg8 → Instr
  | .b => .inrB
  | .c => .inrC
  | .d => .inrD
  | .e => .inrE
  | .h => .inrH
  | .l => .inrL
  | .a => .inrA

/-- DCR r by its register (R137). -/
def Instr.dcrReg : Reg8 → Instr
  | .b => .dcrB
  | .c => .dcrC
  | .d => .dcrD
  | .e => .dcrE
  | .h => .dcrH
  | .l => .dcrL
  | .a => .dcrA

/-- LXI rp,d16 by its pair (R105). -/
def Instr.lxi : Pair → Word → Instr
  | .bc, d16 => .lxiB d16
  | .de, d16 => .lxiD d16
  | .hl, d16 => .lxiH d16
  | .sp, d16 => .lxiSp d16

/-- INX rp by its pair (R139). -/
def Instr.inx : Pair → Instr
  | .bc => .inxB
  | .de => .inxD
  | .hl => .inxH
  | .sp => .inxSp

/-- DCX rp by its pair (R140). -/
def Instr.dcx : Pair → Instr
  | .bc => .dcxB
  | .de => .dcxD
  | .hl => .dcxH
  | .sp => .dcxSp

/-- DAD rp by its pair (R141). -/
def Instr.dad : Pair → Instr
  | .bc => .dadB
  | .de => .dadD
  | .hl => .dadH
  | .sp => .dadSp

/-- PUSH by its pair (R200, R201). -/
def Instr.push : StackPair → Instr
  | .bc => .pushB
  | .de => .pushD
  | .hl => .pushH
  | .psw => .pushPsw

/-- POP by its pair (R202, R203). -/
def Instr.pop : StackPair → Instr
  | .bc => .popB
  | .de => .popD
  | .hl => .popH
  | .psw => .popPsw

/-- The ALU groups by operation and operand (R82, R83, R75). -/
def Instr.alu : AluOp → Operand8 → Instr
  | .add, .reg .b => .addB
  | .add, .reg .c => .addC
  | .add, .reg .d => .addD
  | .add, .reg .e => .addE
  | .add, .reg .h => .addH
  | .add, .reg .l => .addL
  | .add, .reg .a => .addA
  | .add, .mem => .addM
  | .add, .imm d8 => .adi d8
  | .adc, .reg .b => .adcB
  | .adc, .reg .c => .adcC
  | .adc, .reg .d => .adcD
  | .adc, .reg .e => .adcE
  | .adc, .reg .h => .adcH
  | .adc, .reg .l => .adcL
  | .adc, .reg .a => .adcA
  | .adc, .mem => .adcM
  | .adc, .imm d8 => .aci d8
  | .sub, .reg .b => .subB
  | .sub, .reg .c => .subC
  | .sub, .reg .d => .subD
  | .sub, .reg .e => .subE
  | .sub, .reg .h => .subH
  | .sub, .reg .l => .subL
  | .sub, .reg .a => .subA
  | .sub, .mem => .subM
  | .sub, .imm d8 => .sui d8
  | .sbb, .reg .b => .sbbB
  | .sbb, .reg .c => .sbbC
  | .sbb, .reg .d => .sbbD
  | .sbb, .reg .e => .sbbE
  | .sbb, .reg .h => .sbbH
  | .sbb, .reg .l => .sbbL
  | .sbb, .reg .a => .sbbA
  | .sbb, .mem => .sbbM
  | .sbb, .imm d8 => .sbi d8
  | .ana, .reg .b => .anaB
  | .ana, .reg .c => .anaC
  | .ana, .reg .d => .anaD
  | .ana, .reg .e => .anaE
  | .ana, .reg .h => .anaH
  | .ana, .reg .l => .anaL
  | .ana, .reg .a => .anaA
  | .ana, .mem => .anaM
  | .ana, .imm d8 => .ani d8
  | .xra, .reg .b => .xraB
  | .xra, .reg .c => .xraC
  | .xra, .reg .d => .xraD
  | .xra, .reg .e => .xraE
  | .xra, .reg .h => .xraH
  | .xra, .reg .l => .xraL
  | .xra, .reg .a => .xraA
  | .xra, .mem => .xraM
  | .xra, .imm d8 => .xri d8
  | .ora, .reg .b => .oraB
  | .ora, .reg .c => .oraC
  | .ora, .reg .d => .oraD
  | .ora, .reg .e => .oraE
  | .ora, .reg .h => .oraH
  | .ora, .reg .l => .oraL
  | .ora, .reg .a => .oraA
  | .ora, .mem => .oraM
  | .ora, .imm d8 => .ori d8
  | .cmp, .reg .b => .cmpB
  | .cmp, .reg .c => .cmpC
  | .cmp, .reg .d => .cmpD
  | .cmp, .reg .e => .cmpE
  | .cmp, .reg .h => .cmpH
  | .cmp, .reg .l => .cmpL
  | .cmp, .reg .a => .cmpA
  | .cmp, .mem => .cmpM
  | .cmp, .imm d8 => .cpi d8

/-- Jccc a16 by its condition (R182). -/
def Instr.jcc : Cond → Word → Instr
  | .nz, a16 => .jnz a16
  | .z, a16 => .jz a16
  | .nc, a16 => .jnc a16
  | .c, a16 => .jc a16
  | .po, a16 => .jpo a16
  | .pe, a16 => .jpe a16
  | .p, a16 => .jp a16
  | .m, a16 => .jm a16

/-- Cccc a16 by its condition (R184). -/
def Instr.ccc : Cond → Word → Instr
  | .nz, a16 => .cnz a16
  | .z, a16 => .cz a16
  | .nc, a16 => .cnc a16
  | .c, a16 => .cc a16
  | .po, a16 => .cpo a16
  | .pe, a16 => .cpe a16
  | .p, a16 => .cp a16
  | .m, a16 => .cm a16

/-- Rccc by its condition (R186). -/
def Instr.rcc : Cond → Instr
  | .nz => .rnz
  | .z => .rz
  | .nc => .rnc
  | .c => .rc
  | .po => .rpo
  | .pe => .rpe
  | .p => .rp
  | .m => .rm

/-- RST n by its restart number (R187). -/
def Instr.rst : Fin 8 → Instr
  | 0 => .rst0
  | 1 => .rst1
  | 2 => .rst2
  | 3 => .rst3
  | 4 => .rst4
  | 5 => .rst5
  | 6 => .rst6
  | 7 => .rst7

/-! ### Formats and lengths -/

/-- The three instruction formats (30_encoding.md R71). -/
inductive Format where
  | i1 | i2 | i3
  deriving DecidableEq, Repr

/-- A format's length in bytes (30_encoding.md R71). -/
def Format.length : Format → Nat
  | .i1 => 1
  | .i2 => 2
  | .i3 => 3

/-- The ten bytes that are no instruction (30_encoding.md R86). -/
def illegalOpcodes : List Byte :=
  [0x08, 0x10, 0x18, 0x28, 0x38, 0xCB, 0xD9, 0xDD, 0xED, 0xFD]

/-- The 18 opcodes of length 2 (30_encoding.md R72). -/
def twoByteOpcodes : List Byte :=
  [0x06, 0x0E, 0x16, 0x1E, 0x26, 0x2E, 0x36, 0x3E] ++
  [0xC6, 0xCE, 0xD6, 0xDE, 0xE6, 0xEE, 0xF6, 0xFE] ++ [0xD3, 0xDB]

/-- The 26 opcodes of length 3 (30_encoding.md R72). -/
def threeByteOpcodes : List Byte :=
  [0x01, 0x11, 0x21, 0x31] ++ [0x22, 0x2A, 0x32, 0x3A] ++
  [0xC3, 0xC2, 0xCA, 0xD2, 0xDA, 0xE2, 0xEA, 0xF2, 0xFA] ++
  [0xCD, 0xC4, 0xCC, 0xD4, 0xDC, 0xE4, 0xEC, 0xF4, 0xFC]

/-- The format of an opcode byte, or none for a byte that is no instruction (30_encoding.md R72, R86). -/
def opFormat (op : Byte) : Option Format :=
  if op ∈ illegalOpcodes then none
  else if op ∈ twoByteOpcodes then some .i2
  else if op ∈ threeByteOpcodes then some .i3
  else some .i1

/-! ### The decoder -/

/-- Quadrant 00 (30_encoding.md R80): y is bits 5:3, z is bits 2:0. -/
def decodeQuadrant0 (y z : Fin 8) (d8 : Byte) (d16 : Word) : Option Instr :=
  match z with
  | 0 =>
    match y with
    | 0 => some .nop
    | 4 => some .rim
    | 6 => some .sim
    | 1 | 2 | 3 | 5 | 7 => none
  | 1 => some (if y.val % 2 = 0 then .lxi (.ofCode y) d16 else .dad (.ofCode y))
  | 2 =>
    match y with
    | 0 => some .staxB
    | 1 => some .ldaxB
    | 2 => some .staxD
    | 3 => some .ldaxD
    | 4 => some (.shld d16)
    | 5 => some (.lhld d16)
    | 6 => some (.sta d16)
    | 7 => some (.lda d16)
  | 3 => some (if y.val % 2 = 0 then .inx (.ofCode y) else .dcx (.ofCode y))
  | 4 =>
    match Reg8.ofCode y with
    | some r => some (.inrReg r)
    | none => some .inrM
  | 5 =>
    match Reg8.ofCode y with
    | some r => some (.dcrReg r)
    | none => some .dcrM
  | 6 =>
    match Reg8.ofCode y with
    | some r => some (.mviReg r d8)
    | none => some (.mviM d8)
  | 7 =>
    match y with
    | 0 => some .rlc
    | 1 => some .rrc
    | 2 => some .ral
    | 3 => some .rar
    | 4 => some .daa
    | 5 => some .cma
    | 6 => some .stc
    | 7 => some .cmc

/-- Quadrant 01 (30_encoding.md R81): MOV, and HLT in the slot of MOV M,M. -/
def decodeQuadrant1 (y z : Fin 8) : Option Instr :=
  match Reg8.ofCode y, Reg8.ofCode z with
  | some dst, some src => some (.movReg dst src)
  | some dst, none => some (.movFromM dst)
  | none, some src => some (.movToM src)
  | none, none => some .hlt

/-- Quadrant 10 (30_encoding.md R82): the register and memory ALU groups. -/
def decodeQuadrant2 (y z : Fin 8) : Option Instr :=
  some (.alu (.ofCode y) (.ofCode z))

/-- Quadrant 11 (30_encoding.md R83). -/
def decodeQuadrant3 (y z : Fin 8) (d8 : Byte) (a16 : Word) : Option Instr :=
  match z with
  | 0 => some (.rcc (.ofCode y))
  | 1 =>
    match y with
    | 1 => some .ret
    | 3 => none
    | 5 => some .pchl
    | 7 => some .sphl
    | 0 | 2 | 4 | 6 => some (.pop (.ofCode y))
  | 2 => some (.jcc (.ofCode y) a16)
  | 3 =>
    match y with
    | 0 => some (.jmp a16)
    | 1 => none
    | 2 => some (.outPort d8)
    | 3 => some (.inPort d8)
    | 4 => some .xthl
    | 5 => some .xchg
    | 6 => some .di
    | 7 => some .ei
  | 4 => some (.ccc (.ofCode y) a16)
  | 5 =>
    match y with
    | 1 => some (.call a16)
    | 3 | 5 | 7 => none
    | 0 | 2 | 4 | 6 => some (.push (.ofCode y))
  | 6 => some (.alu (.ofCode y) (.imm d8))
  | 7 => some (.rst y)

/-- Dispatch on the whole opcode byte, with the operand bytes byte2 and byte3 (30_encoding.md R78, R79);
none for the ten illegal bytes. An instruction without an operand ignores the operand bytes. -/
def decodeOp (op byte2 byte3 : Byte) : Option Instr :=
  match quadrant op with
  | 0 => decodeQuadrant0 (field3 op 3) (field3 op 0) byte2 (pair byte3 byte2)
  | 1 => decodeQuadrant1 (field3 op 3) (field3 op 0)
  | 2 => decodeQuadrant2 (field3 op 3) (field3 op 0)
  | 3 => decodeQuadrant3 (field3 op 3) (field3 op 0) byte2 (pair byte3 byte2)

/-- Why a byte string is not an instruction. -/
inductive DecodeError where
  /-- No byte at all. -/
  | empty
  /-- The first byte is one of the ten of 30_encoding.md R86. -/
  | illegalOpcode (op : Byte)
  /-- The opcode is one of R72's of length 2 or 3 and operand bytes are missing. -/
  | truncated (op : Byte)
  deriving DecidableEq, Repr

/-- The instruction at the front of a byte string and the bytes after it (30_encoding.md R70 to R72, R79). -/
def decode : List Byte → Except DecodeError (Instr × List Byte)
  | [] => .error .empty
  | op :: rest =>
    match opFormat op, rest with
    | none, _ => .error (.illegalOpcode op)
    | some .i1, _ => decoded op 0 0 rest
    | some .i2, byte2 :: rest' => decoded op byte2 0 rest'
    | some .i3, byte2 :: byte3 :: rest' => decoded op byte2 byte3 rest'
    | some .i2, [] => .error (.truncated op)
    | some .i3, [] => .error (.truncated op)
    | some .i3, [_] => .error (.truncated op)
where
  /-- decodeOp's answer, with the bytes left over. -/
  decoded (op byte2 byte3 : Byte) (rest : List Byte) : Except DecodeError (Instr × List Byte) :=
    match decodeOp op byte2 byte3 with
    | some i => .ok (i, rest)
    | none => .error (.illegalOpcode op)

/-! ### The encoder -/

/-- The bytes of an instruction, from the rows of spec/opcode_table.json: the opcode byte, then d8, or the low and
the high byte of d16 or a16 (30_encoding.md R71, R78). -/
def encode : Instr → List Byte
  | .lxiB d16 => [0x01, lo d16, hi d16]
  | .mviB d8 => [0x06, d8]
  | .mviC d8 => [0x0E, d8]
  | .lxiD d16 => [0x11, lo d16, hi d16]
  | .mviD d8 => [0x16, d8]
  | .mviE d8 => [0x1E, d8]
  | .lxiH d16 => [0x21, lo d16, hi d16]
  | .shld a16 => [0x22, lo a16, hi a16]
  | .mviH d8 => [0x26, d8]
  | .lhld a16 => [0x2A, lo a16, hi a16]
  | .mviL d8 => [0x2E, d8]
  | .lxiSp d16 => [0x31, lo d16, hi d16]
  | .sta a16 => [0x32, lo a16, hi a16]
  | .mviM d8 => [0x36, d8]
  | .lda a16 => [0x3A, lo a16, hi a16]
  | .mviA d8 => [0x3E, d8]
  | .jnz a16 => [0xC2, lo a16, hi a16]
  | .jmp a16 => [0xC3, lo a16, hi a16]
  | .cnz a16 => [0xC4, lo a16, hi a16]
  | .adi d8 => [0xC6, d8]
  | .jz a16 => [0xCA, lo a16, hi a16]
  | .cz a16 => [0xCC, lo a16, hi a16]
  | .call a16 => [0xCD, lo a16, hi a16]
  | .aci d8 => [0xCE, d8]
  | .jnc a16 => [0xD2, lo a16, hi a16]
  | .outPort port => [0xD3, port]
  | .cnc a16 => [0xD4, lo a16, hi a16]
  | .sui d8 => [0xD6, d8]
  | .jc a16 => [0xDA, lo a16, hi a16]
  | .inPort port => [0xDB, port]
  | .cc a16 => [0xDC, lo a16, hi a16]
  | .sbi d8 => [0xDE, d8]
  | .jpo a16 => [0xE2, lo a16, hi a16]
  | .cpo a16 => [0xE4, lo a16, hi a16]
  | .ani d8 => [0xE6, d8]
  | .jpe a16 => [0xEA, lo a16, hi a16]
  | .cpe a16 => [0xEC, lo a16, hi a16]
  | .xri d8 => [0xEE, d8]
  | .jp a16 => [0xF2, lo a16, hi a16]
  | .cp a16 => [0xF4, lo a16, hi a16]
  | .ori d8 => [0xF6, d8]
  | .jm a16 => [0xFA, lo a16, hi a16]
  | .cm a16 => [0xFC, lo a16, hi a16]
  | .cpi d8 => [0xFE, d8]
  | .nop => [0x00]
  | .staxB => [0x02]
  | .inxB => [0x03]
  | .inrB => [0x04]
  | .dcrB => [0x05]
  | .rlc => [0x07]
  | .dadB => [0x09]
  | .ldaxB => [0x0A]
  | .dcxB => [0x0B]
  | .inrC => [0x0C]
  | .dcrC => [0x0D]
  | .rrc => [0x0F]
  | .staxD => [0x12]
  | .inxD => [0x13]
  | .inrD => [0x14]
  | .dcrD => [0x15]
  | .ral => [0x17]
  | .dadD => [0x19]
  | .ldaxD => [0x1A]
  | .dcxD => [0x1B]
  | .inrE => [0x1C]
  | .dcrE => [0x1D]
  | .rar => [0x1F]
  | .rim => [0x20]
  | .inxH => [0x23]
  | .inrH => [0x24]
  | .dcrH => [0x25]
  | .daa => [0x27]
  | .dadH => [0x29]
  | .dcxH => [0x2B]
  | .inrL => [0x2C]
  | .dcrL => [0x2D]
  | .cma => [0x2F]
  | .sim => [0x30]
  | .inxSp => [0x33]
  | .inrM => [0x34]
  | .dcrM => [0x35]
  | .stc => [0x37]
  | .dadSp => [0x39]
  | .dcxSp => [0x3B]
  | .inrA => [0x3C]
  | .dcrA => [0x3D]
  | .cmc => [0x3F]
  | .movBB => [0x40]
  | .movBC => [0x41]
  | .movBD => [0x42]
  | .movBE => [0x43]
  | .movBH => [0x44]
  | .movBL => [0x45]
  | .movBM => [0x46]
  | .movBA => [0x47]
  | .movCB => [0x48]
  | .movCC => [0x49]
  | .movCD => [0x4A]
  | .movCE => [0x4B]
  | .movCH => [0x4C]
  | .movCL => [0x4D]
  | .movCM => [0x4E]
  | .movCA => [0x4F]
  | .movDB => [0x50]
  | .movDC => [0x51]
  | .movDD => [0x52]
  | .movDE => [0x53]
  | .movDH => [0x54]
  | .movDL => [0x55]
  | .movDM => [0x56]
  | .movDA => [0x57]
  | .movEB => [0x58]
  | .movEC => [0x59]
  | .movED => [0x5A]
  | .movEE => [0x5B]
  | .movEH => [0x5C]
  | .movEL => [0x5D]
  | .movEM => [0x5E]
  | .movEA => [0x5F]
  | .movHB => [0x60]
  | .movHC => [0x61]
  | .movHD => [0x62]
  | .movHE => [0x63]
  | .movHH => [0x64]
  | .movHL => [0x65]
  | .movHM => [0x66]
  | .movHA => [0x67]
  | .movLB => [0x68]
  | .movLC => [0x69]
  | .movLD => [0x6A]
  | .movLE => [0x6B]
  | .movLH => [0x6C]
  | .movLL => [0x6D]
  | .movLM => [0x6E]
  | .movLA => [0x6F]
  | .movMB => [0x70]
  | .movMC => [0x71]
  | .movMD => [0x72]
  | .movME => [0x73]
  | .movMH => [0x74]
  | .movML => [0x75]
  | .hlt => [0x76]
  | .movMA => [0x77]
  | .movAB => [0x78]
  | .movAC => [0x79]
  | .movAD => [0x7A]
  | .movAE => [0x7B]
  | .movAH => [0x7C]
  | .movAL => [0x7D]
  | .movAM => [0x7E]
  | .movAA => [0x7F]
  | .addB => [0x80]
  | .addC => [0x81]
  | .addD => [0x82]
  | .addE => [0x83]
  | .addH => [0x84]
  | .addL => [0x85]
  | .addM => [0x86]
  | .addA => [0x87]
  | .adcB => [0x88]
  | .adcC => [0x89]
  | .adcD => [0x8A]
  | .adcE => [0x8B]
  | .adcH => [0x8C]
  | .adcL => [0x8D]
  | .adcM => [0x8E]
  | .adcA => [0x8F]
  | .subB => [0x90]
  | .subC => [0x91]
  | .subD => [0x92]
  | .subE => [0x93]
  | .subH => [0x94]
  | .subL => [0x95]
  | .subM => [0x96]
  | .subA => [0x97]
  | .sbbB => [0x98]
  | .sbbC => [0x99]
  | .sbbD => [0x9A]
  | .sbbE => [0x9B]
  | .sbbH => [0x9C]
  | .sbbL => [0x9D]
  | .sbbM => [0x9E]
  | .sbbA => [0x9F]
  | .anaB => [0xA0]
  | .anaC => [0xA1]
  | .anaD => [0xA2]
  | .anaE => [0xA3]
  | .anaH => [0xA4]
  | .anaL => [0xA5]
  | .anaM => [0xA6]
  | .anaA => [0xA7]
  | .xraB => [0xA8]
  | .xraC => [0xA9]
  | .xraD => [0xAA]
  | .xraE => [0xAB]
  | .xraH => [0xAC]
  | .xraL => [0xAD]
  | .xraM => [0xAE]
  | .xraA => [0xAF]
  | .oraB => [0xB0]
  | .oraC => [0xB1]
  | .oraD => [0xB2]
  | .oraE => [0xB3]
  | .oraH => [0xB4]
  | .oraL => [0xB5]
  | .oraM => [0xB6]
  | .oraA => [0xB7]
  | .cmpB => [0xB8]
  | .cmpC => [0xB9]
  | .cmpD => [0xBA]
  | .cmpE => [0xBB]
  | .cmpH => [0xBC]
  | .cmpL => [0xBD]
  | .cmpM => [0xBE]
  | .cmpA => [0xBF]
  | .rnz => [0xC0]
  | .popB => [0xC1]
  | .pushB => [0xC5]
  | .rst0 => [0xC7]
  | .rz => [0xC8]
  | .ret => [0xC9]
  | .rst1 => [0xCF]
  | .rnc => [0xD0]
  | .popD => [0xD1]
  | .pushD => [0xD5]
  | .rst2 => [0xD7]
  | .rc => [0xD8]
  | .rst3 => [0xDF]
  | .rpo => [0xE0]
  | .popH => [0xE1]
  | .xthl => [0xE3]
  | .pushH => [0xE5]
  | .rst4 => [0xE7]
  | .rpe => [0xE8]
  | .pchl => [0xE9]
  | .xchg => [0xEB]
  | .rst5 => [0xEF]
  | .rp => [0xF0]
  | .popPsw => [0xF1]
  | .di => [0xF3]
  | .pushPsw => [0xF5]
  | .rst6 => [0xF7]
  | .rm => [0xF8]
  | .sphl => [0xF9]
  | .ei => [0xFB]
  | .rst7 => [0xFF]

/-! ### The table's numbering -/

/-- Byte k of an instruction whose bits are w, numbered from the least significant bit of the first byte. -/
def tableByte (w k : Nat) : Byte := BitVec.ofNat 8 (w / 256 ^ k)

/-- The bytes of an instruction of nbits bits w, in memory order, up to the longest instruction's three;
bits above nbits are 0. -/
def tableBytes (nbits w : Nat) : List Byte :=
  let v := w % 2 ^ nbits
  [tableByte v 0, tableByte v 1, tableByte v 2]

/-- The instruction the decoder reads from a word numbered as spec/opcode_table.json numbers it. -/
def decodeTableWord (nbits w : Nat) : Option Instr :=
  match decode (tableBytes nbits w) with
  | .ok (i, _) => some i
  | .error _ => none

end Sys2Proof
end

