-- ==== Sys2Proof/Machine/State.lean ====
section
/-! DEFINITION. The machine's state as plain data: everything 10_state.md names, the configuration it runs under, and
the host's side of IN and of the event stream. INVENTORY.md lists each field with its rule and reset value. -/
namespace Sys2Proof.Machine

/-- Why a step ends in a fault (60_exceptions.md R222). Both are the spec's own (R223, R224). A fault is precise, so
stopping on it is safe: nothing is claimed of what the repository's program would do there. -/
inductive Fault where
  /-- MemoryOutOfRange(addr), R223: raised by an instruction fetch or by a data access at or above MEM_SIZE.
  Raised by State.fetch and by every meaning that touches memory. Safe. -/
  | memoryOutOfRange (addr : Word)
  /-- IllegalOpcode(opcode), R224: the fetched byte is one of the ten of 30_encoding.md R86.
  Raised by State.fetch. Safe. -/
  | illegalOpcode (opcode : Byte)
  deriving DecidableEq, Repr

/-- Why the model has no meaning for an instruction. Every row of the table has one, so nothing raises this. -/
inductive Refusal where
  /-- The instruction is not modelled yet. Raised by no arm of exec. Safe: it claims nothing. -/
  | notModelled (mnemonic : String)
  deriving DecidableEq, Repr

/-- The engine's status (10_state.md R38; transitions 60_exceptions.md R230 to R234). -/
inductive Status where
  | ready
  | running
  | paused
  | halted
  | blockedIn
  /-- Faulted(reason, PC0): the fault and the address of the faulting instruction's opcode (60_exceptions.md R222). -/
  | faulted (reason : Fault) (pc0 : Word)
  deriving DecidableEq, Repr

/-- What the engine sends the host (60_exceptions.md R240, 00_scope.md R11). -/
inductive HostEvent where
  /-- InHook(port): the host is asked for one byte (44_stack_io_control.md R206). -/
  | inHook (port : Byte)
  /-- OutHook(port, v): the host is handed a byte (R207). -/
  | outHook (port v : Byte)
  /-- Diagnostic(opcode): DI, EI, RIM or SIM ran (60_exceptions.md R226). -/
  | diagnostic (opcode : Byte)
  deriving DecidableEq, Repr

/-- Memory as address and byte pairs in the canonical form of Memory.wf (Ops.lean); 20_memory.md R50. -/
abbrev Memory := List Host.Cell

/-- The machine. -/
structure State where
  a : Byte
  b : Byte
  c : Byte
  d : Byte
  e : Byte
  h : Byte
  l : Byte
  /-- The packed flags register, all eight bits (10_state.md R25, R26). -/
  f : Byte
  pc : Word
  sp : Word
  mem : Memory
  status : Status
  /-- The paused flag (10_state.md R39). -/
  paused : Bool
  /-- The breakpoint set, in insertion order (10_state.md R40). -/
  breakpoints : List Word
  /-- The model's own: the bytes the host has ready as answers to IN, oldest first (log 8). -/
  hostIn : List Byte
  /-- The model's own: what the host has been sent, oldest first (log 8; 70_reset_and_hazards.md R270). -/
  events : List HostEvent
  /-- MEM_SIZE, BP_CAPACITY, ENTRY, INIT_REGS: never changed (10_state.md R41, log 1). -/
  cfg : Config
  deriving DecidableEq, Repr

/-- How an instruction or a step ends: a next state, a fault, or a refusal. -/
abbrev Result := Host.Outcome State Fault Refusal

/-- A machine just created and reset with the parameters cfg and the memory INIT_MEM (70_reset_and_hazards.md R260,
20_memory.md R67). No breakpoint is set and the host has neither answered nor been sent anything (logs 8 and 9). -/
def State.initial (cfg : Config) (initMem : Memory) : State :=
  { a := cfg.initRegs.a, b := cfg.initRegs.b, c := cfg.initRegs.c, d := cfg.initRegs.d,
    e := cfg.initRegs.e, h := cfg.initRegs.h, l := cfg.initRegs.l, f := cfg.initRegs.f,
    pc := cfg.entry, sp := cfg.initRegs.sp, mem := initMem, status := .ready, paused := false,
    breakpoints := [], hostIn := [], events := [], cfg := cfg }

/-- The machine right after reset: the parameters of Config.default and memory with nothing listed. -/
def State.reset : State := State.initial Config.default []

end Sys2Proof.Machine
end

