-- ==== Sys2Proof/Machine/Ops.lean ====
section
/-! DEFINITION. The named operations over memory, the stack, the instruction fetch, the host, and the one way a fault
is taken. There is no return from a fault or exception on this hardware (60_exceptions.md R228). -/
namespace Sys2Proof.Machine

/-! ### Memory -/

/-- What an address that memory does not list reads as. DESIGN CHOICE, unsafe: log 6. -/
def Memory.blank : Byte := 0x00

/-- The canonical form: addresses strictly rising, and no entry equal to what an unlisted address reads as. -/
abbrev Memory.wf (m : Memory) : Prop :=
  m.Pairwise (fun x y => x.1 < y.1) ∧ ∀ cell ∈ m, cell.2 ≠ Memory.blank

/-- The byte at an address (20_memory.md R50). -/
def Memory.read : Memory → Nat → Byte
  | [], _ => Memory.blank
  | cell :: rest, addr => if cell.1 = addr then cell.2 else Memory.read rest addr

/-- Memory with one byte written, still in canonical form. -/
def Memory.write : Memory → Nat → Byte → Memory
  | [], addr, v => if v = Memory.blank then [] else [(addr, v)]
  | cell :: rest, addr, v =>
    if addr < cell.1 then
      if v = Memory.blank then cell :: rest else (addr, v) :: cell :: rest
    else if addr = cell.1 then
      if v = Memory.blank then rest else (addr, v) :: rest
    else cell :: Memory.write rest addr v

/-- The byte at a 16-bit address; the access has been checked (00_scope.md R10, MemRead). -/
def State.readByte (s : State) (addr : Word) : Byte := s.mem.read addr.toNat

/-- The state with one byte written; the access has been checked (00_scope.md R10, MemWrite). -/
def State.writeByte (s : State) (addr : Word) (v : Byte) : State :=
  { s with mem := s.mem.write addr.toNat v }

/-- MemRead16: the low byte at addr, the high byte at u16(addr + 1) (00_scope.md R10, 20_memory.md R52 to R54). -/
def State.readWord (s : State) (addr : Word) : Word :=
  pair (s.readByte (addr + 1)) (s.readByte addr)

/-- MemWrite16: the low byte to addr, then the high byte to u16(addr + 1) (00_scope.md R10, 20_memory.md R52 to R54). -/
def State.writeWord (s : State) (addr : Word) (v : Word) : State :=
  (s.writeByte addr (lo v)).writeByte (addr + 1) (hi v)

/-- The first of the addresses, in order, at which no byte exists (20_memory.md R50, R61). -/
def State.firstMissing (s : State) (addrs : List Word) : Option Word :=
  addrs.find? fun addr => decide (s.cfg.memSize ≤ addr.toNat)

/-- An instruction's data accesses: every address is checked, in the order of 60_exceptions.md R225, before anything
is written (20_memory.md R61), and the first missing one is the fault (R223). -/
def State.access (s : State) (addrs : List Word) (effect : Result) : Result :=
  match s.firstMissing addrs with
  | some addr => .fault (.memoryOutOfRange addr)
  | none => effect

/-! ### The stack -/

/-- The addresses Push16 writes, in its order (20_memory.md R56, 60_exceptions.md R225). -/
def State.pushAddrs (s : State) : List Word := [s.sp - 1, s.sp - 2]

/-- Push16(v), its accesses checked (20_memory.md R56). -/
def State.push16 (s : State) (v : Word) : State :=
  { (s.writeByte (s.sp - 1) (hi v)).writeByte (s.sp - 2) (lo v) with sp := s.sp - 2 }

/-- The addresses Pop16 reads, in its order (20_memory.md R57, 60_exceptions.md R225). -/
def State.popAddrs (s : State) : List Word := [s.sp, s.sp + 1]

/-- The value Pop16 returns, its accesses checked (20_memory.md R57). -/
def State.popValue (s : State) : Word := s.readWord s.sp

/-- Pop16's effect on SP (20_memory.md R57). -/
def State.dropWord (s : State) : State := { s with sp := s.sp + 2 }

/-! ### The host -/

/-- One event sent to the host, after those sent before (70_reset_and_hazards.md R270). -/
def State.emit (s : State) (ev : HostEvent) : State := { s with events := s.events ++ [ev] }

/-- The host's answer to a waiting IN: its oldest byte goes to A and the status returns to Running; with no byte ready
the engine goes on waiting (60_exceptions.md R239). -/
def State.resumeIn (s : State) : State :=
  match s.status, s.hostIn with
  | .blockedIn, v :: rest => { s with a := v, hostIn := rest, status := .running }
  | _, _ => s

/-! ### Faults -/

/-- Taking a fault, from the state before the step: the status becomes Faulted(reason, PC0), where PC0 is the PC the
step began at, and nothing else changes (60_exceptions.md R222). -/
def State.takeFault (s : State) (reason : Fault) : State :=
  { s with status := .faulted reason s.pc }

/-! ### Instruction fetch -/

/-- The addresses of the operand bytes of an instruction at pc0, in order, modulo 2^16 (30_encoding.md R85,
20_memory.md R54). -/
def operandAddrs (pc0 : Word) : Format → List Word
  | .i1 => []
  | .i2 => [pc0 + 1]
  | .i3 => [pc0 + 1, pc0 + 2]

/-- An instruction as the engine fetched it, and the address of the next one in sequence, PCn (00_scope.md R12). -/
structure Fetched where
  instr : Instr
  next : Word
  deriving DecidableEq, Repr

/-- Fetch and decode at PC: the opcode byte, then IllegalOpcode, then the operand bytes, faulting in that order
(60_exceptions.md R225, R230; 30_encoding.md R85, R86). -/
def State.fetch (s : State) : Except Fault Fetched :=
  match s.firstMissing [s.pc] with
  | some addr => .error (.memoryOutOfRange addr)
  | none =>
    match opFormat (s.readByte s.pc) with
    | none => .error (.illegalOpcode (s.readByte s.pc))
    | some fmt =>
      match s.firstMissing (operandAddrs s.pc fmt) with
      | some addr => .error (.memoryOutOfRange addr)
      | none =>
        match decode (s.readByte s.pc :: (operandAddrs s.pc fmt).map s.readByte) with
        | .ok (i, _) => .ok { instr := i, next := s.pc + BitVec.ofNat 16 fmt.length }
        | .error _ => .error (.illegalOpcode (s.readByte s.pc))

end Sys2Proof.Machine
end

