-- ==== Sys2Proof/Machine/Operands.lean ====
section
/-! DEFINITION. The operand forms: registers, register pairs, the PSW view, and the second operand of an ALU
instruction. Every read or write of a register named in an instruction goes through here. -/
namespace Sys2Proof.Machine

/-- x[r] (00_scope.md R9, 10_state.md R20). -/
def State.reg (s : State) : Reg8 → Byte
  | .a => s.a
  | .b => s.b
  | .c => s.c
  | .d => s.d
  | .e => s.e
  | .h => s.h
  | .l => s.l

/-- x[r] <- v (00_scope.md R9). No register is hardwired (10_state.md R20). -/
def State.setReg (s : State) (r : Reg8) (v : Byte) : State :=
  match r with
  | .a => { s with a := v }
  | .b => { s with b := v }
  | .c => { s with c := v }
  | .d => { s with d := v }
  | .e => { s with e := v }
  | .h => { s with h := v }
  | .l => { s with l := v }

/-- BC = pair(B, C), DE = pair(D, E), HL = pair(H, L), and SP (10_state.md R23, 30_encoding.md R74). -/
def State.pairValue (s : State) : Pair → Word
  | .bc => pair s.b s.c
  | .de => pair s.d s.e
  | .hl => pair s.h s.l
  | .sp => s.sp

/-- Writing a pair writes hi(v) to the high register and lo(v) to the low one (10_state.md R23). -/
def State.setPair (s : State) (p : Pair) (v : Word) : State :=
  match p with
  | .bc => { s with b := hi v, c := lo v }
  | .de => { s with d := hi v, e := lo v }
  | .hl => { s with h := hi v, l := lo v }
  | .sp => { s with sp := v }

/-- HL, the address of every M operand (10_state.md R21, R23). -/
def State.hl (s : State) : Word := s.pairValue .hl

/-- The pair a PUSH or POP names; PSW = pair(A, F) (10_state.md R24). -/
def State.stackPairValue (s : State) : StackPair → Word
  | .bc => s.pairValue .bc
  | .de => s.pairValue .de
  | .hl => s.pairValue .hl
  | .psw => pair s.a s.f

/-- Writing the pair a POP names; for PSW, A <- hi(v) and F <- lo(v), every bit (44_stack_io_control.md R202, R203). -/
def State.setStackPair (s : State) (p : StackPair) (v : Word) : State :=
  match p with
  | .bc => s.setPair .bc v
  | .de => s.setPair .de v
  | .hl => s.setPair .hl v
  | .psw => { s with a := hi v, f := lo v }

/-- The data addresses of an ALU operand: HL for M, none otherwise (20_memory.md R58). -/
def State.operandAccess (s : State) : Operand8 → List Word
  | .reg _ => []
  | .mem => [s.hl]
  | .imm _ => []

/-- The value of an ALU operand, its access checked (00_scope.md R12). -/
def State.operandValue (s : State) : Operand8 → Byte
  | .reg r => s.reg r
  | .mem => s.readByte s.hl
  | .imm d8 => d8

end Sys2Proof.Machine
end

