-- ==== Sys2Proof/Machine/Flags.lean ====
section
/-! DEFINITION. The flags register and every computation that writes it: the helpers add8, sub8, szp and logic_flags
of the spec, DAA, the rotates, and the conditions. -/
namespace Sys2Proof.Machine

/-! ### The flags register -/

/-- A flag's bit in F: S 7, Z 6, AC 4, P 2, CY 0 (10_state.md R25). -/
def flagBit : Flag → Nat
  | .s => 7
  | .z => 6
  | .ac => 4
  | .p => 2
  | .cy => 0

/-- A flag of a flags byte. -/
def getFlag (f : Byte) (fl : Flag) : Bool := f.getLsbD (flagBit fl)

/-- A flags byte with one flag written and every other bit kept (10_state.md R26, R32). -/
def putFlag (f : Byte) (fl : Flag) (v : Bool) : Byte :=
  let bit : Byte := BitVec.ofNat 8 (2 ^ flagBit fl)
  if v then f ||| bit else f &&& ~~~bit

/-- F.S, F.Z, F.AC, F.P, F.CY of the state (00_scope.md R9). -/
def State.flag (s : State) (fl : Flag) : Bool := getFlag s.f fl

/-- The state with one flag written. -/
def State.setFlag (s : State) (fl : Flag) (v : Bool) : State := { s with f := putFlag s.f fl v }

/-- cond(ccc), from exactly one flag (43_branch.md R180, 30_encoding.md R76). -/
def State.cond (s : State) : Cond → Bool
  | .nz => !s.flag .z
  | .z => s.flag .z
  | .nc => !s.flag .cy
  | .c => s.flag .cy
  | .po => !s.flag .p
  | .pe => s.flag .p
  | .p => !s.flag .s
  | .m => s.flag .s

/-! ### ALU helpers -/

/-- How many bits of a byte are 1. -/
def popcount (v : Byte) : Nat := ((List.range 8).filter fun k => v.getLsbD k).length

/-- parity_even (00_scope.md R8, 10_state.md R30). -/
def parityEven (v : Byte) : Bool := popcount v % 2 == 0

/-- A result and the five flags a helper returns (41_arithmetic.md R120 to R122). -/
structure AluResult where
  res : Byte
  s : Bool
  z : Bool
  ac : Bool
  p : Bool
  cy : Bool
  deriving DecidableEq, Repr

/-- szp: S, Z and P of a result, beside the AC and CY given (41_arithmetic.md R122). -/
def withSzp (res : Byte) (ac cy : Bool) : AluResult :=
  { res := res, s := res.getLsbD 7, z := res == 0, ac := ac, p := parityEven res, cy := cy }

/-- add8(a, b, cin) (41_arithmetic.md R120). -/
def add8 (x y : Byte) (cin : Bool) : AluResult :=
  let t := x.toNat + y.toNat + cin.toNat
  withSzp (BitVec.ofNat 8 t) (decide (x.toNat % 16 + y.toNat % 16 + cin.toNat > 0xF)) (decide (t > 0xFF))

/-- sub8(a, b, bin), by the complement addition; CY is inverted and AC is not (41_arithmetic.md R121). -/
def sub8 (x y : Byte) (bin : Bool) : AluResult :=
  let t := x.toNat + (255 - y.toNat) + (1 - bin.toNat)
  withSzp (BitVec.ofNat 8 t)
    (decide (x.toNat % 16 + (255 - y.toNat) % 16 + (1 - bin.toNat) > 0xF)) (!decide (t > 0xFF))

/-- logic_flags(res): S, Z, P from the result, CY and AC 0, for AND too (42_logical.md R150, 90_conflicts.md C1). -/
def logic8 (res : Byte) : AluResult := withSzp res false false

/-- The ALU operation on A and the operand, with CY as carry or borrow in where the instruction reads it
(30_encoding.md R75; 41_arithmetic.md R123 to R134; 42_logical.md R151 to R162). -/
def aluResult (op : AluOp) (x y : Byte) (cy : Bool) : AluResult :=
  match op with
  | .add => add8 x y false
  | .adc => add8 x y cy
  | .sub => sub8 x y false
  | .sbb => sub8 x y cy
  | .ana => logic8 (x &&& y)
  | .xra => logic8 (x ^^^ y)
  | .ora => logic8 (x ||| y)
  | .cmp => sub8 x y false

/-- The state with S, Z, AC and P written from a helper's result and the other bits of F kept (41_arithmetic.md R122;
INR and DCR, R135 to R138). -/
def State.setFlagsKeepCy (s : State) (r : AluResult) : State :=
  { s with f := putFlag (putFlag (putFlag (putFlag s.f .s r.s) .z r.z) .ac r.ac) .p r.p }

/-- The state with all five flags written from a helper's result and bits 5, 3, 1 of F kept (41_arithmetic.md R122,
10_state.md R26). -/
def State.setFlags (s : State) (r : AluResult) : State := (s.setFlagsKeepCy r).setFlag .cy r.cy

/-! ### DAA and the rotates -/

/-- The low nibble is corrected (41_arithmetic.md R142). -/
def daaLow (x : Byte) (ac : Bool) : Bool := decide (x.toNat % 16 > 9) || ac

/-- The high nibble is corrected (41_arithmetic.md R142). -/
def daaHigh (x : Byte) (cy : Bool) : Bool := decide (x.toNat > 0x99) || cy

/-- DAA's result and flags (41_arithmetic.md R142). -/
def daa8 (x : Byte) (ac cy : Bool) : AluResult :=
  let corr := (if daaLow x ac then 0x06 else 0) + (if daaHigh x cy then 0x60 else 0)
  withSzp (BitVec.ofNat 8 (x.toNat + corr)) (decide (x.toNat % 16 + corr % 16 > 0xF)) (daaHigh x cy || cy)

/-- RLC: the rotated byte and the new CY (42_logical.md R163). -/
def rlc8 (x : Byte) : Byte × Bool :=
  ((x <<< 1) ||| BitVec.ofNat 8 (x.getLsbD 7).toNat, x.getLsbD 7)

/-- RRC: the rotated byte and the new CY (42_logical.md R164). -/
def rrc8 (x : Byte) : Byte × Bool :=
  ((x >>> 1) ||| (BitVec.ofNat 8 (x.getLsbD 0).toNat <<< 7), x.getLsbD 0)

/-- RAL: the rotated byte and the new CY (42_logical.md R165). -/
def ral8 (x : Byte) (cy : Bool) : Byte × Bool :=
  ((x <<< 1) ||| BitVec.ofNat 8 cy.toNat, x.getLsbD 7)

/-- RAR: the rotated byte and the new CY (42_logical.md R166). -/
def rar8 (x : Byte) (cy : Bool) : Byte × Bool :=
  ((x >>> 1) ||| (BitVec.ofNat 8 cy.toNat <<< 7), x.getLsbD 0)

end Sys2Proof.Machine
end

