-- ==== Sys2Proof/Machine/Arithmetic.lean ====
section
/-! DEFINITION. The arithmetic instructions, 41_arithmetic.md: shared operations, then one meaning per instruction. -/
namespace Sys2Proof.Machine

/-! ### Shared operations -/

/-- An ALU instruction: A and the operand give the result and the five flags; CMP and CPI keep A
(41_arithmetic.md R123 to R134, 42_logical.md R151 to R162). -/
def aluOp (op : AluOp) (src : Operand8) (s : State) : Result :=
  let r := aluResult op s.a (s.operandValue src) (s.flag .cy)
  s.access (s.operandAccess src)
    (.next ((if op = .cmp then s else s.setReg .a r.res).setFlags r))

/-- x[r] <- x[r] + 1, with S, Z, AC, P of add8(x[r], 1, 0) and CY kept (R135). -/
def incrementReg (dst : Reg8) (s : State) : Result :=
  let r := add8 (s.reg dst) 1 false
  .next ((s.setReg dst r.res).setFlagsKeepCy r)

/-- The byte at HL plus 1, with S, Z, AC, P of add8 and CY kept (R136). -/
def incrementM (s : State) : Result :=
  let r := add8 (s.readByte s.hl) 1 false
  s.access [s.hl] (.next ((s.writeByte s.hl r.res).setFlagsKeepCy r))

/-- x[r] <- x[r] - 1, with S, Z, AC, P of sub8(x[r], 1, 0) and CY kept (R137). -/
def decrementReg (dst : Reg8) (s : State) : Result :=
  let r := sub8 (s.reg dst) 1 false
  .next ((s.setReg dst r.res).setFlagsKeepCy r)

/-- The byte at HL minus 1, with S, Z, AC, P of sub8 and CY kept (R138). -/
def decrementM (s : State) : Result :=
  let r := sub8 (s.readByte s.hl) 1 false
  s.access [s.hl] (.next ((s.writeByte s.hl r.res).setFlagsKeepCy r))

/-- rp <- u16(rp + k), no flag written; k is 1 for INX and -1 for DCX (R139, R140). -/
def addToPair (p : Pair) (k : Word) (s : State) : Result :=
  .next (s.setPair p (s.pairValue p + k))

/-- HL <- u16(HL + rp), CY the carry out of bit 15 (R141). -/
def doubleAdd (p : Pair) (s : State) : Result :=
  let t := s.hl.toNat + (s.pairValue p).toNat
  .next ((s.setPair .hl (BitVec.ofNat 16 t)).setFlag .cy (decide (t > 0xFFFF)))

/-- DAA (R142). -/
def decimalAdjust (s : State) : Result :=
  let r := daa8 s.a (s.flag .ac) (s.flag .cy)
  .next ((s.setReg .a r.res).setFlags r)

/-! ### Meanings -/

/-- INX B (0x03), R139. -/
def execInxB (s : State) : Result := addToPair .bc 1 s

/-- INR B (0x04), R135. -/
def execInrB (s : State) : Result := incrementReg .b s

/-- DCR B (0x05), R137. -/
def execDcrB (s : State) : Result := decrementReg .b s

/-- DAD B (0x09), R141. -/
def execDadB (s : State) : Result := doubleAdd .bc s

/-- DCX B (0x0B), R140. -/
def execDcxB (s : State) : Result := addToPair .bc (-1) s

/-- INR C (0x0C), R135. -/
def execInrC (s : State) : Result := incrementReg .c s

/-- DCR C (0x0D), R137. -/
def execDcrC (s : State) : Result := decrementReg .c s

/-- INX D (0x13), R139. -/
def execInxD (s : State) : Result := addToPair .de 1 s

/-- INR D (0x14), R135. -/
def execInrD (s : State) : Result := incrementReg .d s

/-- DCR D (0x15), R137. -/
def execDcrD (s : State) : Result := decrementReg .d s

/-- DAD D (0x19), R141. -/
def execDadD (s : State) : Result := doubleAdd .de s

/-- DCX D (0x1B), R140. -/
def execDcxD (s : State) : Result := addToPair .de (-1) s

/-- INR E (0x1C), R135. -/
def execInrE (s : State) : Result := incrementReg .e s

/-- DCR E (0x1D), R137. -/
def execDcrE (s : State) : Result := decrementReg .e s

/-- INX H (0x23), R139. -/
def execInxH (s : State) : Result := addToPair .hl 1 s

/-- INR H (0x24), R135. -/
def execInrH (s : State) : Result := incrementReg .h s

/-- DCR H (0x25), R137. -/
def execDcrH (s : State) : Result := decrementReg .h s

/-- DAA (0x27), R142. -/
def execDaa (s : State) : Result := decimalAdjust s

/-- DAD H (0x29), R141. -/
def execDadH (s : State) : Result := doubleAdd .hl s

/-- DCX H (0x2B), R140. -/
def execDcxH (s : State) : Result := addToPair .hl (-1) s

/-- INR L (0x2C), R135. -/
def execInrL (s : State) : Result := incrementReg .l s

/-- DCR L (0x2D), R137. -/
def execDcrL (s : State) : Result := decrementReg .l s

/-- INX SP (0x33), R139. -/
def execInxSp (s : State) : Result := addToPair .sp 1 s

/-- INR M (0x34), R136. -/
def execInrM (s : State) : Result := incrementM s

/-- DCR M (0x35), R138. -/
def execDcrM (s : State) : Result := decrementM s

/-- DAD SP (0x39), R141. -/
def execDadSp (s : State) : Result := doubleAdd .sp s

/-- DCX SP (0x3B), R140. -/
def execDcxSp (s : State) : Result := addToPair .sp (-1) s

/-- INR A (0x3C), R135. -/
def execInrA (s : State) : Result := incrementReg .a s

/-- DCR A (0x3D), R137. -/
def execDcrA (s : State) : Result := decrementReg .a s

/-- ADD B (0x80), R123. -/
def execAddB (s : State) : Result := aluOp .add (.reg .b) s

/-- ADD C (0x81), R123. -/
def execAddC (s : State) : Result := aluOp .add (.reg .c) s

/-- ADD D (0x82), R123. -/
def execAddD (s : State) : Result := aluOp .add (.reg .d) s

/-- ADD E (0x83), R123. -/
def execAddE (s : State) : Result := aluOp .add (.reg .e) s

/-- ADD H (0x84), R123. -/
def execAddH (s : State) : Result := aluOp .add (.reg .h) s

/-- ADD L (0x85), R123. -/
def execAddL (s : State) : Result := aluOp .add (.reg .l) s

/-- ADD M (0x86), R124. -/
def execAddM (s : State) : Result := aluOp .add .mem s

/-- ADD A (0x87), R123. -/
def execAddA (s : State) : Result := aluOp .add (.reg .a) s

/-- ADC B (0x88), R126. -/
def execAdcB (s : State) : Result := aluOp .adc (.reg .b) s

/-- ADC C (0x89), R126. -/
def execAdcC (s : State) : Result := aluOp .adc (.reg .c) s

/-- ADC D (0x8A), R126. -/
def execAdcD (s : State) : Result := aluOp .adc (.reg .d) s

/-- ADC E (0x8B), R126. -/
def execAdcE (s : State) : Result := aluOp .adc (.reg .e) s

/-- ADC H (0x8C), R126. -/
def execAdcH (s : State) : Result := aluOp .adc (.reg .h) s

/-- ADC L (0x8D), R126. -/
def execAdcL (s : State) : Result := aluOp .adc (.reg .l) s

/-- ADC M (0x8E), R127. -/
def execAdcM (s : State) : Result := aluOp .adc .mem s

/-- ADC A (0x8F), R126. -/
def execAdcA (s : State) : Result := aluOp .adc (.reg .a) s

/-- SUB B (0x90), R129. -/
def execSubB (s : State) : Result := aluOp .sub (.reg .b) s

/-- SUB C (0x91), R129. -/
def execSubC (s : State) : Result := aluOp .sub (.reg .c) s

/-- SUB D (0x92), R129. -/
def execSubD (s : State) : Result := aluOp .sub (.reg .d) s

/-- SUB E (0x93), R129. -/
def execSubE (s : State) : Result := aluOp .sub (.reg .e) s

/-- SUB H (0x94), R129. -/
def execSubH (s : State) : Result := aluOp .sub (.reg .h) s

/-- SUB L (0x95), R129. -/
def execSubL (s : State) : Result := aluOp .sub (.reg .l) s

/-- SUB M (0x96), R130. -/
def execSubM (s : State) : Result := aluOp .sub .mem s

/-- SUB A (0x97), R129. -/
def execSubA (s : State) : Result := aluOp .sub (.reg .a) s

/-- SBB B (0x98), R132. -/
def execSbbB (s : State) : Result := aluOp .sbb (.reg .b) s

/-- SBB C (0x99), R132. -/
def execSbbC (s : State) : Result := aluOp .sbb (.reg .c) s

/-- SBB D (0x9A), R132. -/
def execSbbD (s : State) : Result := aluOp .sbb (.reg .d) s

/-- SBB E (0x9B), R132. -/
def execSbbE (s : State) : Result := aluOp .sbb (.reg .e) s

/-- SBB H (0x9C), R132. -/
def execSbbH (s : State) : Result := aluOp .sbb (.reg .h) s

/-- SBB L (0x9D), R132. -/
def execSbbL (s : State) : Result := aluOp .sbb (.reg .l) s

/-- SBB M (0x9E), R133. -/
def execSbbM (s : State) : Result := aluOp .sbb .mem s

/-- SBB A (0x9F), R132. -/
def execSbbA (s : State) : Result := aluOp .sbb (.reg .a) s

/-- ADI d8 (0xC6), R125. -/
def execAdi (d8 : Byte) (s : State) : Result := aluOp .add (.imm d8) s

/-- ACI d8 (0xCE), R128. -/
def execAci (d8 : Byte) (s : State) : Result := aluOp .adc (.imm d8) s

/-- SUI d8 (0xD6), R131. -/
def execSui (d8 : Byte) (s : State) : Result := aluOp .sub (.imm d8) s

/-- SBI d8 (0xDE), R134. -/
def execSbi (d8 : Byte) (s : State) : Result := aluOp .sbb (.imm d8) s

end Sys2Proof.Machine
end

