-- ==== Sys2Proof/Machine/Branch.lean ====
section
/-! DEFINITION. The branch, call and return instructions, 43_branch.md: shared operations, then one meaning per instruction.
PC is PCn when a meaning starts, and no instruction here writes a flag. -/
namespace Sys2Proof.Machine

/-! ### Shared operations -/

/-- PC <- target (R181, R188). -/
def jumpTo (target : Word) (s : State) : Result := .next { s with pc := target }

/-- Push16(PCn), PC <- target (R183, R187). -/
def callTo (target : Word) (s : State) : Result :=
  s.access s.pushAddrs (.next { s.push16 s.pc with pc := target })

/-- PC <- Pop16() (R185). -/
def returnFromCall (s : State) : Result :=
  s.access s.popAddrs (.next { s.dropWord with pc := s.popValue })

/-- The transfer when cond(ccc) holds, and nothing otherwise: PC stays PCn and no stack access is made
(R182, R184, R186). -/
def whenCond (k : Cond) (transfer : Result) (s : State) : Result :=
  if s.cond k then transfer else .next s

/-! ### Meanings -/

/-- RNZ (0xC0), R186. -/
def execRnz (s : State) : Result := whenCond .nz (returnFromCall s) s

/-- JNZ a16 (0xC2), R182. -/
def execJnz (a16 : Word) (s : State) : Result := whenCond .nz (jumpTo a16 s) s

/-- JMP a16 (0xC3), R181. -/
def execJmp (a16 : Word) (s : State) : Result := jumpTo a16 s

/-- CNZ a16 (0xC4), R184. -/
def execCnz (a16 : Word) (s : State) : Result := whenCond .nz (callTo a16 s) s

/-- RST 0 (0xC7), R187. -/
def execRst0 (s : State) : Result := callTo (BitVec.ofNat 16 (0 * 8)) s

/-- RZ (0xC8), R186. -/
def execRz (s : State) : Result := whenCond .z (returnFromCall s) s

/-- RET (0xC9), R185. -/
def execRet (s : State) : Result := returnFromCall s

/-- JZ a16 (0xCA), R182. -/
def execJz (a16 : Word) (s : State) : Result := whenCond .z (jumpTo a16 s) s

/-- CZ a16 (0xCC), R184. -/
def execCz (a16 : Word) (s : State) : Result := whenCond .z (callTo a16 s) s

/-- CALL a16 (0xCD), R183. -/
def execCall (a16 : Word) (s : State) : Result := callTo a16 s

/-- RST 1 (0xCF), R187. -/
def execRst1 (s : State) : Result := callTo (BitVec.ofNat 16 (1 * 8)) s

/-- RNC (0xD0), R186. -/
def execRnc (s : State) : Result := whenCond .nc (returnFromCall s) s

/-- JNC a16 (0xD2), R182. -/
def execJnc (a16 : Word) (s : State) : Result := whenCond .nc (jumpTo a16 s) s

/-- CNC a16 (0xD4), R184. -/
def execCnc (a16 : Word) (s : State) : Result := whenCond .nc (callTo a16 s) s

/-- RST 2 (0xD7), R187. -/
def execRst2 (s : State) : Result := callTo (BitVec.ofNat 16 (2 * 8)) s

/-- RC (0xD8), R186. -/
def execRc (s : State) : Result := whenCond .c (returnFromCall s) s

/-- JC a16 (0xDA), R182. -/
def execJc (a16 : Word) (s : State) : Result := whenCond .c (jumpTo a16 s) s

/-- CC a16 (0xDC), R184. -/
def execCc (a16 : Word) (s : State) : Result := whenCond .c (callTo a16 s) s

/-- RST 3 (0xDF), R187. -/
def execRst3 (s : State) : Result := callTo (BitVec.ofNat 16 (3 * 8)) s

/-- RPO (0xE0), R186. -/
def execRpo (s : State) : Result := whenCond .po (returnFromCall s) s

/-- JPO a16 (0xE2), R182. -/
def execJpo (a16 : Word) (s : State) : Result := whenCond .po (jumpTo a16 s) s

/-- CPO a16 (0xE4), R184. -/
def execCpo (a16 : Word) (s : State) : Result := whenCond .po (callTo a16 s) s

/-- RST 4 (0xE7), R187. -/
def execRst4 (s : State) : Result := callTo (BitVec.ofNat 16 (4 * 8)) s

/-- RPE (0xE8), R186. -/
def execRpe (s : State) : Result := whenCond .pe (returnFromCall s) s

/-- PCHL (0xE9), R188. -/
def execPchl (s : State) : Result := jumpTo s.hl s

/-- JPE a16 (0xEA), R182. -/
def execJpe (a16 : Word) (s : State) : Result := whenCond .pe (jumpTo a16 s) s

/-- CPE a16 (0xEC), R184. -/
def execCpe (a16 : Word) (s : State) : Result := whenCond .pe (callTo a16 s) s

/-- RST 5 (0xEF), R187. -/
def execRst5 (s : State) : Result := callTo (BitVec.ofNat 16 (5 * 8)) s

/-- RP (0xF0), R186. -/
def execRp (s : State) : Result := whenCond .p (returnFromCall s) s

/-- JP a16 (0xF2), R182. -/
def execJp (a16 : Word) (s : State) : Result := whenCond .p (jumpTo a16 s) s

/-- CP a16 (0xF4), R184. -/
def execCp (a16 : Word) (s : State) : Result := whenCond .p (callTo a16 s) s

/-- RST 6 (0xF7), R187. -/
def execRst6 (s : State) : Result := callTo (BitVec.ofNat 16 (6 * 8)) s

/-- RM (0xF8), R186. -/
def execRm (s : State) : Result := whenCond .m (returnFromCall s) s

/-- JM a16 (0xFA), R182. -/
def execJm (a16 : Word) (s : State) : Result := whenCond .m (jumpTo a16 s) s

/-- CM a16 (0xFC), R184. -/
def execCm (a16 : Word) (s : State) : Result := whenCond .m (callTo a16 s) s

/-- RST 7 (0xFF), R187. -/
def execRst7 (s : State) : Result := callTo (BitVec.ofNat 16 (7 * 8)) s

end Sys2Proof.Machine
end

