-- ==== Sys2Proof/Machine/DataTransfer.lean ====
section
/-! DEFINITION. The data transfer instructions, 40_data_transfer.md: shared operations, then one meaning per instruction. Every
meaning starts with PC at PCn (30_encoding.md R85) and no instruction here writes a flag (10_state.md R32). -/
namespace Sys2Proof.Machine

/-! ### Shared operations -/

/-- x[r1] <- x[r2] (R100). -/
def moveReg (dst src : Reg8) (s : State) : Result := .next (s.setReg dst (s.reg src))

/-- x[r] <- d8 (R103). -/
def moveImm (dst : Reg8) (d8 : Byte) (s : State) : Result := .next (s.setReg dst d8)

/-- x[r] <- MemRead(HL), the address being HL before the write (R101). -/
def moveFromM (dst : Reg8) (s : State) : Result :=
  s.access [s.hl] (.next (s.setReg dst (s.readByte s.hl)))

/-- MemWrite(addr, 1, v) (R102, R104, R107, R111). -/
def storeByte (addr : Word) (v : Byte) (s : State) : Result :=
  s.access [addr] (.next (s.writeByte addr v))

/-- A <- MemRead(addr, 1) (R106, R110). -/
def loadAcc (addr : Word) (s : State) : Result :=
  s.access [addr] (.next (s.setReg .a (s.readByte addr)))

/-- rp <- d16 (R105). -/
def loadPairImm (p : Pair) (d16 : Word) (s : State) : Result := .next (s.setPair p d16)

/-- L <- MemRead(a16, 1), H <- MemRead(u16(a16 + 1), 1) (R108). -/
def loadHL (a16 : Word) (s : State) : Result :=
  s.access [a16, a16 + 1] (.next (s.setPair .hl (s.readWord a16)))

/-- MemWrite(a16, 1, L), MemWrite(u16(a16 + 1), 1, H) (R109). -/
def storeHL (a16 : Word) (s : State) : Result :=
  s.access [a16, a16 + 1] (.next (s.writeWord a16 s.hl))

/-- HL and DE change places (R112). -/
def exchangeDEHL (s : State) : Result :=
  .next ((s.setPair .hl (s.pairValue .de)).setPair .de s.hl)

/-! ### Meanings -/

/-- LXI B,d16 (0x01), R105. -/
def execLxiB (d16 : Word) (s : State) : Result := loadPairImm .bc d16 s

/-- STAX B (0x02), R111. -/
def execStaxB (s : State) : Result := storeByte (s.pairValue .bc) s.a s

/-- MVI B,d8 (0x06), R103. -/
def execMviB (d8 : Byte) (s : State) : Result := moveImm .b d8 s

/-- LDAX B (0x0A), R110. -/
def execLdaxB (s : State) : Result := loadAcc (s.pairValue .bc) s

/-- MVI C,d8 (0x0E), R103. -/
def execMviC (d8 : Byte) (s : State) : Result := moveImm .c d8 s

/-- LXI D,d16 (0x11), R105. -/
def execLxiD (d16 : Word) (s : State) : Result := loadPairImm .de d16 s

/-- STAX D (0x12), R111. -/
def execStaxD (s : State) : Result := storeByte (s.pairValue .de) s.a s

/-- MVI D,d8 (0x16), R103. -/
def execMviD (d8 : Byte) (s : State) : Result := moveImm .d d8 s

/-- LDAX D (0x1A), R110. -/
def execLdaxD (s : State) : Result := loadAcc (s.pairValue .de) s

/-- MVI E,d8 (0x1E), R103. -/
def execMviE (d8 : Byte) (s : State) : Result := moveImm .e d8 s

/-- LXI H,d16 (0x21), R105. -/
def execLxiH (d16 : Word) (s : State) : Result := loadPairImm .hl d16 s

/-- SHLD a16 (0x22), R109. -/
def execShld (a16 : Word) (s : State) : Result := storeHL a16 s

/-- MVI H,d8 (0x26), R103. -/
def execMviH (d8 : Byte) (s : State) : Result := moveImm .h d8 s

/-- LHLD a16 (0x2A), R108. -/
def execLhld (a16 : Word) (s : State) : Result := loadHL a16 s

/-- MVI L,d8 (0x2E), R103. -/
def execMviL (d8 : Byte) (s : State) : Result := moveImm .l d8 s

/-- LXI SP,d16 (0x31), R105. -/
def execLxiSp (d16 : Word) (s : State) : Result := loadPairImm .sp d16 s

/-- STA a16 (0x32), R107. -/
def execSta (a16 : Word) (s : State) : Result := storeByte a16 s.a s

/-- MVI M,d8 (0x36), R104. -/
def execMviM (d8 : Byte) (s : State) : Result := storeByte s.hl d8 s

/-- LDA a16 (0x3A), R106. -/
def execLda (a16 : Word) (s : State) : Result := loadAcc a16 s

/-- MVI A,d8 (0x3E), R103. -/
def execMviA (d8 : Byte) (s : State) : Result := moveImm .a d8 s

/-- MOV B,B (0x40), R100. -/
def execMovBB (s : State) : Result := moveReg .b .b s

/-- MOV B,C (0x41), R100. -/
def execMovBC (s : State) : Result := moveReg .b .c s

/-- MOV B,D (0x42), R100. -/
def execMovBD (s : State) : Result := moveReg .b .d s

/-- MOV B,E (0x43), R100. -/
def execMovBE (s : State) : Result := moveReg .b .e s

/-- MOV B,H (0x44), R100. -/
def execMovBH (s : State) : Result := moveReg .b .h s

/-- MOV B,L (0x45), R100. -/
def execMovBL (s : State) : Result := moveReg .b .l s

/-- MOV B,M (0x46), R101. -/
def execMovBM (s : State) : Result := moveFromM .b s

/-- MOV B,A (0x47), R100. -/
def execMovBA (s : State) : Result := moveReg .b .a s

/-- MOV C,B (0x48), R100. -/
def execMovCB (s : State) : Result := moveReg .c .b s

/-- MOV C,C (0x49), R100. -/
def execMovCC (s : State) : Result := moveReg .c .c s

/-- MOV C,D (0x4A), R100. -/
def execMovCD (s : State) : Result := moveReg .c .d s

/-- MOV C,E (0x4B), R100. -/
def execMovCE (s : State) : Result := moveReg .c .e s

/-- MOV C,H (0x4C), R100. -/
def execMovCH (s : State) : Result := moveReg .c .h s

/-- MOV C,L (0x4D), R100. -/
def execMovCL (s : State) : Result := moveReg .c .l s

/-- MOV C,M (0x4E), R101. -/
def execMovCM (s : State) : Result := moveFromM .c s

/-- MOV C,A (0x4F), R100. -/
def execMovCA (s : State) : Result := moveReg .c .a s

/-- MOV D,B (0x50), R100. -/
def execMovDB (s : State) : Result := moveReg .d .b s

/-- MOV D,C (0x51), R100. -/
def execMovDC (s : State) : Result := moveReg .d .c s

/-- MOV D,D (0x52), R100. -/
def execMovDD (s : State) : Result := moveReg .d .d s

/-- MOV D,E (0x53), R100. -/
def execMovDE (s : State) : Result := moveReg .d .e s

/-- MOV D,H (0x54), R100. -/
def execMovDH (s : State) : Result := moveReg .d .h s

/-- MOV D,L (0x55), R100. -/
def execMovDL (s : State) : Result := moveReg .d .l s

/-- MOV D,M (0x56), R101. -/
def execMovDM (s : State) : Result := moveFromM .d s

/-- MOV D,A (0x57), R100. -/
def execMovDA (s : State) : Result := moveReg .d .a s

/-- MOV E,B (0x58), R100. -/
def execMovEB (s : State) : Result := moveReg .e .b s

/-- MOV E,C (0x59), R100. -/
def execMovEC (s : State) : Result := moveReg .e .c s

/-- MOV E,D (0x5A), R100. -/
def execMovED (s : State) : Result := moveReg .e .d s

/-- MOV E,E (0x5B), R100. -/
def execMovEE (s : State) : Result := moveReg .e .e s

/-- MOV E,H (0x5C), R100. -/
def execMovEH (s : State) : Result := moveReg .e .h s

/-- MOV E,L (0x5D), R100. -/
def execMovEL (s : State) : Result := moveReg .e .l s

/-- MOV E,M (0x5E), R101. -/
def execMovEM (s : State) : Result := moveFromM .e s

/-- MOV E,A (0x5F), R100. -/
def execMovEA (s : State) : Result := moveReg .e .a s

/-- MOV H,B (0x60), R100. -/
def execMovHB (s : State) : Result := moveReg .h .b s

/-- MOV H,C (0x61), R100. -/
def execMovHC (s : State) : Result := moveReg .h .c s

/-- MOV H,D (0x62), R100. -/
def execMovHD (s : State) : Result := moveReg .h .d s

/-- MOV H,E (0x63), R100. -/
def execMovHE (s : State) : Result := moveReg .h .e s

/-- MOV H,H (0x64), R100. -/
def execMovHH (s : State) : Result := moveReg .h .h s

/-- MOV H,L (0x65), R100. -/
def execMovHL (s : State) : Result := moveReg .h .l s

/-- MOV H,M (0x66), R101. -/
def execMovHM (s : State) : Result := moveFromM .h s

/-- MOV H,A (0x67), R100. -/
def execMovHA (s : State) : Result := moveReg .h .a s

/-- MOV L,B (0x68), R100. -/
def execMovLB (s : State) : Result := moveReg .l .b s

/-- MOV L,C (0x69), R100. -/
def execMovLC (s : State) : Result := moveReg .l .c s

/-- MOV L,D (0x6A), R100. -/
def execMovLD (s : State) : Result := moveReg .l .d s

/-- MOV L,E (0x6B), R100. -/
def execMovLE (s : State) : Result := moveReg .l .e s

/-- MOV L,H (0x6C), R100. -/
def execMovLH (s : State) : Result := moveReg .l .h s

/-- MOV L,L (0x6D), R100. -/
def execMovLL (s : State) : Result := moveReg .l .l s

/-- MOV L,M (0x6E), R101. -/
def execMovLM (s : State) : Result := moveFromM .l s

/-- MOV L,A (0x6F), R100. -/
def execMovLA (s : State) : Result := moveReg .l .a s

/-- MOV M,B (0x70), R102. -/
def execMovMB (s : State) : Result := storeByte s.hl (s.reg .b) s

/-- MOV M,C (0x71), R102. -/
def execMovMC (s : State) : Result := storeByte s.hl (s.reg .c) s

/-- MOV M,D (0x72), R102. -/
def execMovMD (s : State) : Result := storeByte s.hl (s.reg .d) s

/-- MOV M,E (0x73), R102. -/
def execMovME (s : State) : Result := storeByte s.hl (s.reg .e) s

/-- MOV M,H (0x74), R102. -/
def execMovMH (s : State) : Result := storeByte s.hl (s.reg .h) s

/-- MOV M,L (0x75), R102. -/
def execMovML (s : State) : Result := storeByte s.hl (s.reg .l) s

/-- MOV M,A (0x77), R102. -/
def execMovMA (s : State) : Result := storeByte s.hl (s.reg .a) s

/-- MOV A,B (0x78), R100. -/
def execMovAB (s : State) : Result := moveReg .a .b s

/-- MOV A,C (0x79), R100. -/
def execMovAC (s : State) : Result := moveReg .a .c s

/-- MOV A,D (0x7A), R100. -/
def execMovAD (s : State) : Result := moveReg .a .d s

/-- MOV A,E (0x7B), R100. -/
def execMovAE (s : State) : Result := moveReg .a .e s

/-- MOV A,H (0x7C), R100. -/
def execMovAH (s : State) : Result := moveReg .a .h s

/-- MOV A,L (0x7D), R100. -/
def execMovAL (s : State) : Result := moveReg .a .l s

/-- MOV A,M (0x7E), R101. -/
def execMovAM (s : State) : Result := moveFromM .a s

/-- MOV A,A (0x7F), R100. -/
def execMovAA (s : State) : Result := moveReg .a .a s

/-- XCHG (0xEB), R112. -/
def execXchg (s : State) : Result := exchangeDEHL s

end Sys2Proof.Machine
end

