-- ==== Sys2Proof/Machine/Logical.lean ====
section
/-! DEFINITION. The logical, compare, rotate and carry instructions, 42_logical.md: shared operations (the ALU
operation is Arithmetic.lean's aluOp), then one meaning per instruction. -/
namespace Sys2Proof.Machine

/-! ### Shared operations -/

/-- A <- the rotated byte, CY <- the bit rotated out, no other flag (R163 to R166). -/
def rotateAcc (r : Byte × Bool) (s : State) : Result :=
  .next ((s.setReg .a r.1).setFlag .cy r.2)

/-- A <- ~A, no flag (R167). -/
def complementAcc (s : State) : Result := .next (s.setReg .a (~~~s.a))

/-- CY <- v, no other flag (R168, R169). -/
def setCarry (v : Bool) (s : State) : Result := .next (s.setFlag .cy v)

/-! ### Meanings -/

/-- RLC (0x07), R163. -/
def execRlc (s : State) : Result := rotateAcc (rlc8 s.a) s

/-- RRC (0x0F), R164. -/
def execRrc (s : State) : Result := rotateAcc (rrc8 s.a) s

/-- RAL (0x17), R165. -/
def execRal (s : State) : Result := rotateAcc (ral8 s.a (s.flag .cy)) s

/-- RAR (0x1F), R166. -/
def execRar (s : State) : Result := rotateAcc (rar8 s.a (s.flag .cy)) s

/-- CMA (0x2F), R167. -/
def execCma (s : State) : Result := complementAcc s

/-- STC (0x37), R169. -/
def execStc (s : State) : Result := setCarry true s

/-- CMC (0x3F), R168. -/
def execCmc (s : State) : Result := setCarry (!s.flag .cy) s

/-- ANA B (0xA0), R151. -/
def execAnaB (s : State) : Result := aluOp .ana (.reg .b) s

/-- ANA C (0xA1), R151. -/
def execAnaC (s : State) : Result := aluOp .ana (.reg .c) s

/-- ANA D (0xA2), R151. -/
def execAnaD (s : State) : Result := aluOp .ana (.reg .d) s

/-- ANA E (0xA3), R151. -/
def execAnaE (s : State) : Result := aluOp .ana (.reg .e) s

/-- ANA H (0xA4), R151. -/
def execAnaH (s : State) : Result := aluOp .ana (.reg .h) s

/-- ANA L (0xA5), R151. -/
def execAnaL (s : State) : Result := aluOp .ana (.reg .l) s

/-- ANA M (0xA6), R152. -/
def execAnaM (s : State) : Result := aluOp .ana .mem s

/-- ANA A (0xA7), R151. -/
def execAnaA (s : State) : Result := aluOp .ana (.reg .a) s

/-- XRA B (0xA8), R154. -/
def execXraB (s : State) : Result := aluOp .xra (.reg .b) s

/-- XRA C (0xA9), R154. -/
def execXraC (s : State) : Result := aluOp .xra (.reg .c) s

/-- XRA D (0xAA), R154. -/
def execXraD (s : State) : Result := aluOp .xra (.reg .d) s

/-- XRA E (0xAB), R154. -/
def execXraE (s : State) : Result := aluOp .xra (.reg .e) s

/-- XRA H (0xAC), R154. -/
def execXraH (s : State) : Result := aluOp .xra (.reg .h) s

/-- XRA L (0xAD), R154. -/
def execXraL (s : State) : Result := aluOp .xra (.reg .l) s

/-- XRA M (0xAE), R155. -/
def execXraM (s : State) : Result := aluOp .xra .mem s

/-- XRA A (0xAF), R154. -/
def execXraA (s : State) : Result := aluOp .xra (.reg .a) s

/-- ORA B (0xB0), R157. -/
def execOraB (s : State) : Result := aluOp .ora (.reg .b) s

/-- ORA C (0xB1), R157. -/
def execOraC (s : State) : Result := aluOp .ora (.reg .c) s

/-- ORA D (0xB2), R157. -/
def execOraD (s : State) : Result := aluOp .ora (.reg .d) s

/-- ORA E (0xB3), R157. -/
def execOraE (s : State) : Result := aluOp .ora (.reg .e) s

/-- ORA H (0xB4), R157. -/
def execOraH (s : State) : Result := aluOp .ora (.reg .h) s

/-- ORA L (0xB5), R157. -/
def execOraL (s : State) : Result := aluOp .ora (.reg .l) s

/-- ORA M (0xB6), R158. -/
def execOraM (s : State) : Result := aluOp .ora .mem s

/-- ORA A (0xB7), R157. -/
def execOraA (s : State) : Result := aluOp .ora (.reg .a) s

/-- CMP B (0xB8), R160. -/
def execCmpB (s : State) : Result := aluOp .cmp (.reg .b) s

/-- CMP C (0xB9), R160. -/
def execCmpC (s : State) : Result := aluOp .cmp (.reg .c) s

/-- CMP D (0xBA), R160. -/
def execCmpD (s : State) : Result := aluOp .cmp (.reg .d) s

/-- CMP E (0xBB), R160. -/
def execCmpE (s : State) : Result := aluOp .cmp (.reg .e) s

/-- CMP H (0xBC), R160. -/
def execCmpH (s : State) : Result := aluOp .cmp (.reg .h) s

/-- CMP L (0xBD), R160. -/
def execCmpL (s : State) : Result := aluOp .cmp (.reg .l) s

/-- CMP M (0xBE), R161. -/
def execCmpM (s : State) : Result := aluOp .cmp .mem s

/-- CMP A (0xBF), R160. -/
def execCmpA (s : State) : Result := aluOp .cmp (.reg .a) s

/-- ANI d8 (0xE6), R153. -/
def execAni (d8 : Byte) (s : State) : Result := aluOp .ana (.imm d8) s

/-- XRI d8 (0xEE), R156. -/
def execXri (d8 : Byte) (s : State) : Result := aluOp .xra (.imm d8) s

/-- ORI d8 (0xF6), R159. -/
def execOri (d8 : Byte) (s : State) : Result := aluOp .ora (.imm d8) s

/-- CPI d8 (0xFE), R162. -/
def execCpi (d8 : Byte) (s : State) : Result := aluOp .cmp (.imm d8) s

end Sys2Proof.Machine
end

