-- ==== Sys2Proof/Machine/StackIo.lean ====
section
/-! DEFINITION. The stack, I/O and machine-control instructions, 44_stack_io_control.md: shared operations, then one meaning
per instruction. -/
namespace Sys2Proof.Machine

/-! ### Shared operations -/

/-- Push16 of a pair (R200, R201). -/
def pushPair (p : StackPair) (s : State) : Result :=
  s.access s.pushAddrs (.next (s.push16 (s.stackPairValue p)))

/-- A pair <- Pop16() (R202, R203). -/
def popPair (p : StackPair) (s : State) : Result :=
  s.access s.popAddrs (.next (s.dropWord.setStackPair p s.popValue))

/-- HL and the word at SP change places; SP stays (R204). -/
def exchangeTop (s : State) : Result :=
  s.access s.popAddrs (.next ((s.writeWord s.sp s.hl).setPair .hl s.popValue))

/-- SP <- HL (R205). -/
def loadSpFromHL (s : State) : Result := .next (s.setPair .sp s.hl)

/-- IN: the host is asked, the status is BlockedIn, and the step completes at once when an answer is ready
(R206, 60_exceptions.md R239; log 8). -/
def inputByte (port : Byte) (s : State) : Result :=
  .next (State.resumeIn { s.emit (.inHook port) with status := .blockedIn })

/-- OUT: OutHook(port, A) and nothing else (R207). -/
def outputByte (port : Byte) (s : State) : Result := .next (s.emit (.outHook port s.a))

/-- DI, EI, RIM, SIM: Diagnostic(opcode) and nothing else (R208 to R211, 60_exceptions.md R226). -/
def unimplemented (opcode : Byte) (s : State) : Result := .next (s.emit (.diagnostic opcode))

/-- status <- Halted; PC stays PCn (R212). -/
def halt (s : State) : Result := .next { s with status := .halted }

/-- Nothing (R213). -/
def noOperation (s : State) : Result := .next s

/-! ### Meanings -/

/-- NOP (0x00), R213. -/
def execNop (s : State) : Result := noOperation s

/-- RIM (0x20), R210. -/
def execRim (s : State) : Result := unimplemented 0x20 s

/-- SIM (0x30), R211. -/
def execSim (s : State) : Result := unimplemented 0x30 s

/-- HLT (0x76), R212. -/
def execHlt (s : State) : Result := halt s

/-- POP B (0xC1), R202. -/
def execPopB (s : State) : Result := popPair .bc s

/-- PUSH B (0xC5), R200. -/
def execPushB (s : State) : Result := pushPair .bc s

/-- POP D (0xD1), R202. -/
def execPopD (s : State) : Result := popPair .de s

/-- OUT d8 (0xD3), R207. -/
def execOutPort (port : Byte) (s : State) : Result := outputByte port s

/-- PUSH D (0xD5), R200. -/
def execPushD (s : State) : Result := pushPair .de s

/-- IN d8 (0xDB), R206. -/
def execInPort (port : Byte) (s : State) : Result := inputByte port s

/-- POP H (0xE1), R202. -/
def execPopH (s : State) : Result := popPair .hl s

/-- XTHL (0xE3), R204. -/
def execXthl (s : State) : Result := exchangeTop s

/-- PUSH H (0xE5), R200. -/
def execPushH (s : State) : Result := pushPair .hl s

/-- POP PSW (0xF1), R203. -/
def execPopPsw (s : State) : Result := popPair .psw s

/-- DI (0xF3), R209. -/
def execDi (s : State) : Result := unimplemented 0xF3 s

/-- PUSH PSW (0xF5), R201. -/
def execPushPsw (s : State) : Result := pushPair .psw s

/-- SPHL (0xF9), R205. -/
def execSphl (s : State) : Result := loadSpFromHL s

/-- EI (0xFB), R208. -/
def execEi (s : State) : Result := unimplemented 0xFB s

end Sys2Proof.Machine
end

