-- ==== Sys2Proof/Machine/RunLoop.lean ====
section
/-! DEFINITION. step_one and the run loop, 60_exceptions.md section 3: fetch, decode, execute, and the stop checks
after an instruction. The single_step argument of run is an argument here too (10_state.md R41). -/
namespace Sys2Proof.Machine

/-- step_one: fetch at PC, PC <- PCn, perform the instruction (R230). It answers the instruction's next state, whose
status says whether it completed, halted or waits in IN (R221), or the fault, which discards every write (R222). -/
def stepOne (s : State) : Result :=
  match s.fetch with
  | .error reason => .fault reason
  | .ok fetched => exec fetched.instr { s with pc := fetched.next }

/-- Entering run: paused <- false, status <- Running (R231). -/
def State.enterRun (s : State) : State := { s with status := .running, paused := false }

/-- Stopping at a breakpoint or after a single step (R231, 10_state.md R39). -/
def State.pause (s : State) : State := { s with status := .paused, paused := true }

/-- The checks after an instruction that completed: single step, then breakpoints against the PC it left
(R231, R232, R234). After HLT the status is not Running and the run is over; while IN waits nothing is checked (R239). -/
def State.stopCheck (s : State) (single : Bool) : State :=
  match s.status with
  | .running => if single || decide (s.pc ∈ s.breakpoints) then s.pause else s
  | .ready | .paused | .halted | .blockedIn | .faulted _ _ => s

/-- What the run loop makes of an instruction's outcome, begun at s: a fault is taken on s, first of all the checks
(R231, R232, R222). -/
def settle (single : Bool) (s : State) : Result → Result
  | .next t => .next (t.stopCheck single)
  | .fault reason => .next (s.takeFault reason)
  | .refused why => .refused why

/-- One turn of the run loop (R231). Ready and Running run one instruction, Ready entering the run first (log 5).
BlockedIn takes the host's answer if there is one, and then its stop checks (R239). A Paused engine waits for
the host, and a Halted or Faulted one takes no step (R222, R231, R242). -/
def iterate (single : Bool) (s : State) : Result :=
  match s.status with
  | .ready | .running => settle single s.enterRun (stepOne s.enterRun)
  | .blockedIn => settle single s (.next s.resumeIn)
  | .paused | .halted | .faulted _ _ => .next s

end Sys2Proof.Machine
end

