-- ==== Sys2Proof/Machine/Step.lean ====
section
/-! DEFINITION. The machine's step, and how an instruction is placed where the next step fetches. -/
namespace Sys2Proof.Machine

/-- One step: one turn of run(false), the loop that exec and continue start (60_exceptions.md R231, R238; log 5). -/
def step (s : State) : Host.Outcome State Fault Refusal := iterate false s

/-- The bytes of an instruction word, numbered as spec/opcode_table.json numbers it, stored at PC, PC+1 and PC+2
(modulo 2^16), with the engine ready to run them. An engine that is Ready or Running keeps its status; one that would
take no step, or waits in IN, is made Ready (log 13). -/
def State.withFetchWord (s : State) (nbits w : Nat) : State :=
  let v := w % 2 ^ nbits
  let s' := ((s.writeByte s.pc (tableByte v 0)).writeByte (s.pc + 1) (tableByte v 1)).writeByte (s.pc + 2) (tableByte v 2)
  match s.status with
  | .ready | .running => s'
  | .paused | .halted | .blockedIn | .faulted _ _ => { s' with status := .ready, paused := false }

end Sys2Proof.Machine
end

