-- ==== Sys2Proof/Machine/Controller.lean ====
section
/-! DEFINITION. What the host can do to the engine between runs, and its answers to IN: 60_exceptions.md sections 3 to 5
and 70_reset_and_hazards.md sections 1 and 2. A run may never return (a loop without a stop, or an IN never answered), so
run and the entry points that call it take a number of turns to make (log 10).
DESIGN CHOICE (log 19): the host calls these between runs only (R240, R241), and the spec gives no outcome for a call
while a run is in progress; these functions do not look whether one is (State.inRun), and carry such a call out. -/
namespace Sys2Proof.Machine

/-! ### Reset and loading -/

/-- Reset: registers, F and SP from INIT_REGS, PC from ENTRY, status Ready, paused false; memory, the breakpoint set
and the host's side unchanged (70_reset_and_hazards.md R260, R265). Of an engine whose run is in progress: log 19. -/
def State.resetEngine (s : State) : State :=
  { State.initial s.cfg s.mem with breakpoints := s.breakpoints, hostIn := s.hostIn, events := s.events }

/-- The state with bytes written from an address on. -/
def State.writeBytes (s : State) (addr : Nat) : List Byte → State
  | [] => s
  | v :: rest => State.writeBytes { s with mem := s.mem.write addr v } (addr + 1) rest

/-- Loading an image: its bytes at its addresses and nothing else (60_exceptions.md R240, 20_memory.md R62, R67);
none for an image that does not fit the memory (log 11). Into an engine whose run is in progress: log 19. -/
def State.loadImage (s : State) (img : Image) : Option State :=
  if img.wellFormed s.cfg then some (s.writeBytes img.start img.bytes) else none

/-- The host supplies a byte for IN, after those it supplied before, at any time (60_exceptions.md R239; log 8). -/
def State.supplyInput (s : State) (v : Byte) : State := { s with hostIn := s.hostIn ++ [v] }

/-! ### Breakpoints -/

/-- add_breakpoint (60_exceptions.md R235): the new state and the bool returned. While a run is in progress: log 19. -/
def State.addBreakpoint (s : State) (addr : Word) : State × Bool :=
  if addr ∈ s.breakpoints then (s, true)
  else if s.cfg.bpCapacity ≤ s.breakpoints.length then (s, false)
  else ({ s with breakpoints := s.breakpoints ++ [addr] }, true)

/-- remove_breakpoint (60_exceptions.md R236): the new state and the bool returned. While a run is in progress: log 19. -/
def State.removeBreakpoint (s : State) (addr : Word) : State × Bool :=
  if addr ∈ s.breakpoints then ({ s with breakpoints := s.breakpoints.erase addr }, true)
  else (s, false)

/-- list_breakpoints (60_exceptions.md R237). -/
def State.listBreakpoints (s : State) : List Word := s.breakpoints

/-! ### Runs -/

/-- A run has not returned: the engine is in its loop or waits in IN (60_exceptions.md R231, R239). -/
def State.inRun (s : State) : Bool :=
  match s.status with
  | .running | .blockedIn => true
  | .ready | .paused | .halted | .faulted _ _ => false

/-- The loop of run(single), for at most so many turns; it stops when run would return (60_exceptions.md R231). -/
def runLoop : Nat → Bool → State → Result
  | 0, _, s => .next s
  | turns + 1, single, s =>
    if s.inRun then
      match iterate single s with
      | .next t => runLoop turns single t
      | .fault reason => .fault reason
      | .refused why => .refused why
    else .next s

/-- run(single): a Halted or Faulted engine takes no step; otherwise the run is entered, or the one in progress goes
on (60_exceptions.md R231; log 10). -/
def run (turns : Nat) (single : Bool) (s : State) : Result :=
  match s.status with
  | .halted | .faulted _ _ => .next s
  | .ready | .paused => runLoop turns single s.enterRun
  | .running | .blockedIn => runLoop turns single s

/-- exec(start): PC <- start, status <- Ready, paused <- false, run(false); registers, flags, SP and memory stay
(60_exceptions.md R238). Of an engine whose run is in progress it abandons that run and starts this one: log 19. -/
def execFrom (turns : Nat) (start : Word) (s : State) : Result :=
  run turns false { s with pc := start, status := .ready, paused := false }

/-- What step() and continue() answer (60_exceptions.md R238). -/
inductive CallReply where
  /-- The engine is not paused: the caller's error, and nothing changes. -/
  | callerError
  | ran (result : Result)
  deriving Repr

/-- step(): run(true) when paused (60_exceptions.md R238); an engine whose run is in progress is not paused. -/
def stepCommand (turns : Nat) (s : State) : CallReply :=
  if s.paused then .ran (run turns true s) else .callerError

/-- continue(): run(false) when paused (60_exceptions.md R238); an engine whose run is in progress is not paused. -/
def continueCommand (turns : Nat) (s : State) : CallReply :=
  if s.paused then .ran (run turns false s) else .callerError

end Sys2Proof.Machine
end

