-- ==== Sys2Proof/Safety.lean ====
section
/-! DEFINITION. The terms that statements about the machine use: which bytes exist, what a step leaves unchanged, the
invariant, runs, and the codes of 30_encoding.md section 2 as bit fields. -/
namespace Sys2Proof

/-! ### Codes as bit fields (30_encoding.md R73 to R76) -/

/-- B=0, C=1, D=2, E=3, H=4, L=5, A=7 (R73). -/
def Reg8.code : Reg8 → BitVec 3
  | .b => 0b000
  | .c => 0b001
  | .d => 0b010
  | .e => 0b011
  | .h => 0b100
  | .l => 0b101
  | .a => 0b111

/-- BC=0, DE=1, HL=2, SP=3 (R74). -/
def Pair.code : Pair → BitVec 2
  | .bc => 0b00
  | .de => 0b01
  | .hl => 0b10
  | .sp => 0b11

/-- BC=0, DE=1, HL=2, PSW=3 (R74). -/
def StackPair.code : StackPair → BitVec 2
  | .bc => 0b00
  | .de => 0b01
  | .hl => 0b10
  | .psw => 0b11

/-- The condition codes (R76). -/
def Cond.code : Cond → BitVec 3
  | .nz => 0b000
  | .z => 0b001
  | .nc => 0b010
  | .c => 0b011
  | .po => 0b100
  | .pe => 0b101
  | .p => 0b110
  | .m => 0b111

/-- The ALU operation codes (R75). -/
def AluOp.code : AluOp → BitVec 3
  | .add => 0b000
  | .adc => 0b001
  | .sub => 0b010
  | .sbb => 0b011
  | .ana => 0b100
  | .xra => 0b101
  | .ora => 0b110
  | .cmp => 0b111

/-- The bytes of an ALU instruction: 10 ALU SSS with SSS = 110 for M, or 11 ALU 110 d8 (R75, R82, R83). -/
def AluOp.bytes (op : AluOp) : Operand8 → List Byte
  | .reg r => [0b10#2 ++ op.code ++ r.code]
  | .mem => [0b10#2 ++ op.code ++ 0b110#3]
  | .imm d8 => [0b11#2 ++ op.code ++ 0b110#3, d8]

/-- parity_even as a sum modulo 2 of the eight bits (00_scope.md R8). -/
def evenOnes (v : Byte) : Bool :=
  !(v.getLsbD 0 ^^ v.getLsbD 1 ^^ v.getLsbD 2 ^^ v.getLsbD 3 ^^
    v.getLsbD 4 ^^ v.getLsbD 5 ^^ v.getLsbD 6 ^^ v.getLsbD 7)

namespace Machine

/-! ### Memory that exists -/

/-- A byte exists at this address (20_memory.md R50). -/
abbrev State.hasByte (s : State) (addr : Word) : Prop := addr.toNat < s.cfg.memSize

/-- The first of some addresses, in order, at which no byte exists. -/
def FirstMissingIs (s : State) (addrs : List Word) (addr : Word) : Prop :=
  ∃ pre post, addrs = pre ++ addr :: post ∧ (∀ w ∈ pre, s.hasByte w) ∧ ¬ s.hasByte addr

/-- The instruction faults on the first of its data addresses that does not exist
(20_memory.md R61, 60_exceptions.md R223, R225). -/
def FaultsOnMissing (i : Instr) (s : State) (addrs : List Word) : Prop :=
  ∀ addr, FirstMissingIs s addrs addr → exec i s = .fault (.memoryOutOfRange addr)

/-! ### Frames -/

/-- Every general register but these holds what it held. -/
def RegsKeptExcept (rs : List Reg8) (s t : State) : Prop := ∀ r, r ∉ rs → t.reg r = s.reg r

/-- Every bit of F but those of these flags holds what it held, bits 5, 3 and 1 among them. -/
def FlagBitsKeptExcept (fls : List Flag) (s t : State) : Prop :=
  ∀ k, k ∉ fls.map flagBit → t.f.getLsbD k = s.f.getLsbD k

/-- Every byte of memory reads as it did. -/
def MemKept (s t : State) : Prop := ∀ addr : Nat, t.mem.read addr = s.mem.read addr

/-- Every byte of memory outside these addresses reads as it did. -/
def MemKeptOutside (addrs : List Word) (s t : State) : Prop :=
  ∀ addr : Nat, (∀ w ∈ addrs, addr ≠ w.toNat) → t.mem.read addr = s.mem.read addr

/-- The engine's status, paused flag, breakpoints and parameters are as they were. -/
def EngineKept (s t : State) : Prop :=
  t.status = s.status ∧ t.paused = s.paused ∧ t.breakpoints = s.breakpoints ∧ t.cfg = s.cfg

/-- The host's answers and the events sent are as they were. -/
def HostKept (s t : State) : Prop := t.hostIn = s.hostIn ∧ t.events = s.events

/-- Registers but these, F but these flags, the engine and the host are as they were. -/
def KeptExcept (rs : List Reg8) (fls : List Flag) (s t : State) : Prop :=
  RegsKeptExcept rs s t ∧ FlagBitsKeptExcept fls s t ∧ EngineKept s t ∧ HostKept s t

/-- S, Z and P as szp gives them for a result (41_arithmetic.md R122). -/
def SzpOf (res : Byte) (t : State) : Prop :=
  t.flag .s = res.getLsbD 7 ∧ t.flag .z = decide (res = 0) ∧ t.flag .p = evenOnes res

/-! ### What instructions access and write, as the spec's summaries list it -/

/-- The data addresses of an instruction, in the order of 60_exceptions.md R225 (20_memory.md R58); a call or return not
taken makes no access (43_branch.md R184, R186). -/
def dataAddrs (i : Instr) (s : State) : List Word :=
  match i with
  | .movBM | .movCM | .movDM | .movEM | .movHM | .movLM | .movAM | .movMB | .movMC | .movMD
  | .movME | .movMH | .movML | .movMA | .addM | .adcM | .subM | .sbbM | .anaM | .xraM
  | .oraM | .cmpM | .inrM | .dcrM | .mviM _ => [s.hl]
  | .lda a16 | .sta a16 => [a16]
  | .ldaxB | .staxB => [s.pairValue .bc]
  | .ldaxD | .staxD => [s.pairValue .de]
  | .lhld a16 | .shld a16 => [a16, a16 + 1]
  | .pushB | .pushD | .pushH | .pushPsw | .call _
  | .rst0 | .rst1 | .rst2 | .rst3 | .rst4 | .rst5 | .rst6 | .rst7 => [s.sp - 1, s.sp - 2]
  | .cnz _ => if s.cond .nz then [s.sp - 1, s.sp - 2] else []
  | .cz _ => if s.cond .z then [s.sp - 1, s.sp - 2] else []
  | .cnc _ => if s.cond .nc then [s.sp - 1, s.sp - 2] else []
  | .cc _ => if s.cond .c then [s.sp - 1, s.sp - 2] else []
  | .cpo _ => if s.cond .po then [s.sp - 1, s.sp - 2] else []
  | .cpe _ => if s.cond .pe then [s.sp - 1, s.sp - 2] else []
  | .cp _ => if s.cond .p then [s.sp - 1, s.sp - 2] else []
  | .cm _ => if s.cond .m then [s.sp - 1, s.sp - 2] else []
  | .popB | .popD | .popH | .popPsw | .ret | .xthl => [s.sp, s.sp + 1]
  | .rnz => if s.cond .nz then [s.sp, s.sp + 1] else []
  | .rz => if s.cond .z then [s.sp, s.sp + 1] else []
  | .rnc => if s.cond .nc then [s.sp, s.sp + 1] else []
  | .rc => if s.cond .c then [s.sp, s.sp + 1] else []
  | .rpo => if s.cond .po then [s.sp, s.sp + 1] else []
  | .rpe => if s.cond .pe then [s.sp, s.sp + 1] else []
  | .rp => if s.cond .p then [s.sp, s.sp + 1] else []
  | .rm => if s.cond .m then [s.sp, s.sp + 1] else []
  | _ => []

/-- The instructions that store to memory (20_memory.md R58). -/
def Stores (i : Instr) : Prop :=
  (∃ r, i = .movToM r) ∨ (∃ d8, i = .mviM d8) ∨ i = .inrM ∨ i = .dcrM ∨ (∃ a16, i = .sta a16) ∨
  i = .staxB ∨ i = .staxD ∨ (∃ a16, i = .shld a16) ∨ (∃ p, i = .push p) ∨ (∃ a16, i = .call a16) ∨
  (∃ k a16, i = .ccc k a16) ∨ (∃ n, i = .rst n) ∨ i = .xthl

/-- The two bytes of a word pushed below SP, the high one at SP-1 (20_memory.md R56). -/
def pushedBytes (s : State) (v : Word) : List (Word × Byte) := [(s.sp - 1, hi v), (s.sp - 2, lo v)]

/-- The bytes an instruction stores, each with its address, as the rules of 40_data_transfer.md to
44_stack_io_control.md give them, for every instruction that stores (20_memory.md R58). -/
def StoresBytes (i : Instr) (s : State) (bytes : List (Word × Byte)) : Prop :=
  (∃ r, i = .movToM r ∧ bytes = [(pair s.h s.l, s.reg r)]) ∨ (∃ d8, i = .mviM d8 ∧ bytes = [(pair s.h s.l, d8)]) ∨
  (i = .inrM ∧ bytes = [(pair s.h s.l, s.readByte (pair s.h s.l) + 1)]) ∨
  (i = .dcrM ∧ bytes = [(pair s.h s.l, s.readByte (pair s.h s.l) - 1)]) ∨
  (∃ a16, i = .sta a16 ∧ bytes = [(a16, s.a)]) ∨ (i = .staxB ∧ bytes = [(pair s.b s.c, s.a)]) ∨
  (i = .staxD ∧ bytes = [(pair s.d s.e, s.a)]) ∨ (∃ a16, i = .shld a16 ∧ bytes = [(a16, s.l), (a16 + 1, s.h)]) ∨
  (∃ p, i = .push p ∧ bytes = pushedBytes s (s.stackPairValue p)) ∨
  (∃ a16, i = .call a16 ∧ bytes = pushedBytes s s.pc) ∨
  (∃ k a16, i = .ccc k a16 ∧ s.cond k = true ∧ bytes = pushedBytes s s.pc) ∨
  (∃ n, i = .rst n ∧ bytes = pushedBytes s s.pc) ∨ (i = .xthl ∧ bytes = [(s.sp, s.l), (s.sp + 1, s.h)])

/-- The byte at an address once these bytes are stored. -/
def byteAfter (s : State) (bytes : List (Word × Byte)) (addr : Word) : Byte :=
  (bytes.lookup addr).getD (s.readByte addr)

/-- The instructions that may write a general register (10_state.md R22). -/
def MayWriteReg (i : Instr) (r : Reg8) : Prop :=
  (∃ src, i = .movReg r src) ∨ i = .movFromM r ∨ (∃ d8, i = .mviReg r d8) ∨ i = .inrReg r ∨ i = .dcrReg r ∨
  (r = .a ∧ ((∃ a16, i = .lda a16) ∨ i = .ldaxB ∨ i = .ldaxD ∨ (∃ op src, op ≠ .cmp ∧ i = .alu op src) ∨ i = .daa ∨
    i = .rlc ∨ i = .rrc ∨ i = .ral ∨ i = .rar ∨ i = .cma ∨ i = .popPsw ∨ ∃ port, i = .inPort port)) ∨
  ((r = .b ∨ r = .c) ∧ ((∃ d16, i = .lxiB d16) ∨ i = .inxB ∨ i = .dcxB ∨ i = .popB)) ∨
  ((r = .d ∨ r = .e) ∧ ((∃ d16, i = .lxiD d16) ∨ i = .inxD ∨ i = .dcxD ∨ i = .popD ∨ i = .xchg)) ∨
  ((r = .h ∨ r = .l) ∧ ((∃ d16, i = .lxiH d16) ∨ i = .inxH ∨ i = .dcxH ∨ i = .popH ∨ i = .xchg ∨ i = .xthl ∨
    (∃ p, i = .dad p) ∨ ∃ a16, i = .lhld a16))

/-- The instructions that may write F: the rows of 10_state.md R32. -/
def MayWriteFlags (i : Instr) : Prop :=
  (∃ op src, i = .alu op src) ∨ (∃ r, i = .inrReg r) ∨ i = .inrM ∨ (∃ r, i = .dcrReg r) ∨ i = .dcrM ∨
  i = .daa ∨ (∃ p, i = .dad p) ∨ i = .rlc ∨ i = .rrc ∨ i = .ral ∨ i = .rar ∨ i = .stc ∨ i = .cmc ∨ i = .popPsw

/-- The instructions that may set SP (10_state.md R36). -/
def MayWriteSp (i : Instr) : Prop :=
  (∃ d16, i = .lxiSp d16) ∨ i = .inxSp ∨ i = .dcxSp ∨ i = .sphl ∨ (∃ p, i = .push p) ∨ (∃ p, i = .pop p) ∨
  (∃ a16, i = .call a16) ∨ (∃ k a16, i = .ccc k a16) ∨ i = .ret ∨ (∃ k, i = .rcc k) ∨ ∃ n, i = .rst n

/-- The control transfers (43_branch.md): the instructions that may leave PC at another address than PCn. -/
def MayTransfer (i : Instr) : Prop :=
  (∃ a16, i = .jmp a16) ∨ (∃ k a16, i = .jcc k a16) ∨ (∃ a16, i = .call a16) ∨ (∃ k a16, i = .ccc k a16) ∨
  i = .ret ∨ (∃ k, i = .rcc k) ∨ (∃ n, i = .rst n) ∨ i = .pchl

/-- The instructions that send the host an event (60_exceptions.md R240). -/
def MaySignalHost (i : Instr) : Prop :=
  (∃ port, i = .inPort port) ∨ (∃ port, i = .outPort port) ∨ i = .ei ∨ i = .di ∨ i = .rim ∨ i = .sim

/-! ### The invariant -/

/-- What holds of every machine in use: MEM_SIZE in its range (00_scope.md R6), memory in canonical form and inside
MEM_SIZE (20_memory.md R50), paused exactly when the status is Paused (10_state.md R39), and the breakpoint set
without repeats and within BP_CAPACITY (10_state.md R40). -/
abbrev State.Inv (s : State) : Prop :=
  s.cfg.wellFormed = true ∧ Memory.wf s.mem ∧ (∀ cell ∈ s.mem, cell.1 < s.cfg.memSize) ∧
  (s.paused = true ↔ s.status = .paused) ∧ s.breakpoints.Nodup ∧ s.breakpoints.length ≤ s.cfg.bpCapacity

/-! ### Runs -/

/-- The engine is about to run an instruction: Ready or Running. -/
def State.active (s : State) : Prop := s.status = .ready ∨ s.status = .running

/-- The state after a fault taken by the step that began here: only the status, and paused on entering the run, differ
(60_exceptions.md R222, R231). -/
def State.afterFault (s : State) (reason : Fault) : State :=
  { s with status := .faulted reason s.pc, paused := false }

/-- The status is Faulted. -/
def State.isFaulted (s : State) : Bool :=
  match s.status with
  | .faulted _ _ => true
  | .ready | .running | .paused | .halted | .blockedIn => false

/-- The states that steps lead to. -/
inductive Reaches (s : State) : State → Prop where
  | refl : Reaches s s
  | tail {t u : State} : Reaches s t → step t = .next u → Reaches s u

/-- So many steps, one after another. -/
def steps : Nat → State → Result
  | 0, s => .next s
  | k + 1, s =>
    match step s with
    | .next t => steps k t
    | .fault reason => .fault reason
    | .refused why => .refused why

/-- A run(false) given this many turns, entered at s, that answers r: r is the state after k steps, each of them made
with the run in progress; every turn was made unless the run returned (60_exceptions.md R231). -/
def RunsBySteps (turns : Nat) (s : State) (r : Result) : Prop :=
  ∃ k t, r = .next t ∧ k ≤ turns ∧ steps k s = .next t ∧
    (∀ j < k, ∃ u, steps j s = .next u ∧ u.inRun = true) ∧ (k = turns ∨ t.inRun = false)

/-- A safe run: no state it reaches is Faulted. -/
def NeverFaults (s : State) : Prop := ∀ t, Reaches s t → t.isFaulted = false

end Machine

end Sys2Proof
end

