-- ==== Sys2Proof/Certificates/Slice0/Obligations.lean ====
section
/-! DEFINITION. The statements for the provers. Each docstring names the rules it formalises; OBLIGATIONS.json lists
them. In a statement about exec, PC already holds PCn (30_encoding.md R85); StepRunsTheDecodedInstruction ties
exec to the step. -/

open Sys2Proof Sys2Proof.Machine

/-! ### Encoding -/

/-- Every instruction, with every operand, decodes from its encoding, and the bytes after it are left. -/
def Obligations.DecodeOfEncodeIsTheInstruction : Prop :=
  ∀ (i : Instr) (rest : List Byte), decode (encode i ++ rest) = .ok (i, rest)

/-- Bytes that decode are the encoding of what they decode to, followed by what is left: each instruction has one
encoding. -/
def Obligations.EncodeOfDecodeIsTheBytes : Prop :=
  ∀ (bytes : List Byte) (i : Instr) (rest : List Byte),
    decode bytes = .ok (i, rest) → encode i ++ rest = bytes

/-- R86: the ten bytes and no others are refused as opcodes (the spec's own choice, D11). -/
def Obligations.ExactlyTenOpcodesAreIllegal : Prop :=
  ∀ (op : Byte) (rest : List Byte),
    decode (op :: rest) = .error (.illegalOpcode op) ↔
      op ∈ ([0x08, 0x10, 0x18, 0x28, 0x38, 0xCB, 0xD9, 0xDD, 0xED, 0xFD] : List Byte)

/-- R72: the length of an instruction is a function of its opcode byte, by R72's lists. -/
def Obligations.LengthIsAFunctionOfTheOpcode : Prop :=
  ∀ (i : Instr) (op : Byte) (operands : List Byte), encode i = op :: operands →
    (operands.length = 1 ↔
      op ∈ ([0x06, 0x0E, 0x16, 0x1E, 0x26, 0x2E, 0x36, 0x3E, 0xC6, 0xCE, 0xD6, 0xDE, 0xE6, 0xEE, 0xF6, 0xFE,
        0xD3, 0xDB] : List Byte)) ∧
    (operands.length = 2 ↔
      op ∈ ([0x01, 0x11, 0x21, 0x31, 0x22, 0x2A, 0x32, 0x3A, 0xC3, 0xC2, 0xCA, 0xD2, 0xDA, 0xE2, 0xEA, 0xF2, 0xFA,
        0xCD, 0xC4, 0xCC, 0xD4, 0xDC, 0xE4, 0xEC, 0xF4, 0xFC] : List Byte)) ∧
    operands.length ≤ 2

/-- Words written out from the spec's encodings decode to the instructions they stand for. -/
def Obligations.SpecWordsDecode : Prop :=
  decodeTableWord 8 0x41 = some .movBC ∧ decodeTableWord 24 0xC00031 = some (.lxiSp 0xC000) ∧
  decodeTableWord 8 0x86 = some .addM ∧ decodeTableWord 16 0x03E6 = some (.ani 0x03) ∧
  decodeTableWord 24 0x0004C2 = some (.jnz 0x0004) ∧ decodeTableWord 8 0xF1 = some .popPsw ∧
  decodeTableWord 16 0x01D3 = some (.outPort 0x01) ∧ decodeTableWord 8 0xCB = none

/-! ### The step -/

/-- R230, R231: when the bytes at PC exist and decode to i, a step of an active engine is exec of i with PC at PCn,
status Running and paused false, then the breakpoint check; a fault leaves all but the status and paused. Clearing paused on
entry is the spec's own choice, D16; that Ready enters the run in the same step is the model's, log 5. -/
def Obligations.StepRunsTheDecodedInstruction : Prop :=
  ∀ (s : State) (i : Instr) (rest : List Byte), s.active →
    decode [s.readByte s.pc, s.readByte (s.pc + 1), s.readByte (s.pc + 2)] = .ok (i, rest) →
    (∀ k < (encode i).length, s.hasByte (s.pc + BitVec.ofNat 16 k)) →
    step s =
      match exec i { s with
          pc := s.pc + BitVec.ofNat 16 (encode i).length, status := .running, paused := false } with
      | .next t =>
        .next (if t.status = .running ∧ t.pc ∈ t.breakpoints then { t with status := .paused, paused := true } else t)
      | .fault reason => .next (s.afterFault reason)
      | .refused why => .refused why

/-- R222, R231, R242: a Halted or Faulted engine takes no step, by step or by run. That a fault is sticky and that HLT
is left only by reset or exec are the spec's own choices D28 and D14 (93 I13); that step leaves such an engine as it is,
and the turns of run, are the model's, logs 5 and 10. -/
def Obligations.HaltedOrFaultedEngineTakesNoStep : Prop :=
  ∀ (s : State) (turns : Nat) (single : Bool),
    (s.status = .halted ∨ ∃ reason pc0, s.status = .faulted reason pc0) →
    step s = .next s ∧ run turns single s = .next s

/-- R222: whenever a step leaves the engine Faulted, either it was Faulted so already and nothing changed, or the step
began active, PC0 is the PC it began at, and nothing but the status (and paused, on entering the run) changed (the
spec's own choices D4, D11, D28; log 7). -/
def Obligations.FaultsArePrecise : Prop :=
  ∀ (s t : State) (reason : Fault) (pc0 : Word), step s = .next t → t.status = .faulted reason pc0 →
    t = s ∨ (s.active ∧ pc0 = s.pc ∧ t = s.afterFault reason)

/-- R225 (1) to (3), R223, R224: the fetch faults in this order: the opcode byte missing, an illegal opcode, byte 2
missing, byte 3 missing (the spec's own choices D4 and D11). -/
def Obligations.FetchFaultsInOrder : Prop :=
  ∀ s : State, s.active →
    (¬ s.hasByte s.pc → step s = .next (s.afterFault (.memoryOutOfRange s.pc))) ∧
    (s.hasByte s.pc →
      s.readByte s.pc ∈ ([0x08, 0x10, 0x18, 0x28, 0x38, 0xCB, 0xD9, 0xDD, 0xED, 0xFD] : List Byte) →
      step s = .next (s.afterFault (.illegalOpcode (s.readByte s.pc)))) ∧
    (∀ (i : Instr) (operands : List Byte), s.hasByte s.pc → encode i = s.readByte s.pc :: operands →
      1 ≤ operands.length → ¬ s.hasByte (s.pc + 1) →
      step s = .next (s.afterFault (.memoryOutOfRange (s.pc + 1)))) ∧
    (∀ (i : Instr) (operands : List Byte), s.hasByte s.pc → encode i = s.readByte s.pc :: operands →
      operands.length = 2 → s.hasByte (s.pc + 1) → ¬ s.hasByte (s.pc + 2) →
      step s = .next (s.afterFault (.memoryOutOfRange (s.pc + 2))))

/-- R225 (4), R61: an instruction whose data addresses do not all exist faults on the first that does not, in the
order its rule lists them (the spec's own choice, D4). -/
def Obligations.MissingDataAddressFaults : Prop :=
  ∀ (i : Instr) (s : State), FaultsOnMissing i s (dataAddrs i s)

/-- R61, R223: every instruction of the table answers a next state in every state in which its data addresses exist;
with no data access, in every state. All but IN have completed in it; IN with no answer ready only waits, BlockedIn
(R206, R239, D30; InWaitsUntilTheHostAnswers). That missing data addresses are the one cause of a fault is the spec's
own choice D4, and that nothing is refused the model's, log 17. -/
def Obligations.EveryInstructionAnswersWhenItsBytesExist : Prop :=
  ∀ (i : Instr) (s : State), (∀ w ∈ dataAddrs i s, s.hasByte w) → ∃ t, exec i s = .next t

/-- A step answers a next state from every state: no instruction is refused. This is the model's form of R221 and
R231: a step is one turn of run(false) (log 5), R221's outcome Fault is a next state with the status Faulted (log 7), and
no meaning refuses (log 17). -/
def Obligations.EveryStepAnswersANextState : Prop :=
  ∀ s : State, ∃ t, step s = .next t

/-- R223: with MEM_SIZE = 0x10000, 16-bit addresses, and an engine that is not Faulted, no step ends in
MemoryOutOfRange (the fault is the spec's own choice, D4). -/
def Obligations.FullMemoryNeverFaultsOutOfRange : Prop :=
  ∀ (s t : State) (addr pc0 : Word), s.cfg.memSize = 0x10000 → s.isFaulted = false → step s = .next t →
    t.status ≠ .faulted (.memoryOutOfRange addr) pc0

/-! ### The invariant -/

/-- The machine after reset meets the invariant. It rests on the reset values of logs 2 to 4, 6 and 9. -/
def Obligations.ResetMeetsTheInvariant : Prop := State.reset.Inv

/-- Every step keeps the invariant: memory canonical and inside MEM_SIZE, paused exactly when the status is Paused, the
breakpoint set distinct and within capacity (10_state.md R39, R40; 20_memory.md R50, R61). That paused follows the
status is the spec's own choice, D27. -/
def Obligations.StepKeepsTheInvariant : Prop :=
  ∀ s t : State, s.Inv → step s = .next t → t.Inv

/-- Everything in R240's table that changes the machine keeps the invariant: reset, breakpoint changes, a byte for IN, a
loaded image, and the runs of exec(start), step() and continue(), single-stepping or not, of any number of turns
(60_exceptions.md R231, R235, R236, R238; R260). The entry points are the spec's own choices D16 and D29; turns (log 10),
the list of answers (log 8), refusing an image that does not fit (log 11) and calls while a run is in progress (log 19)
are the model's. -/
def Obligations.HostActionsKeepTheInvariant : Prop :=
  ∀ s : State, s.Inv →
    s.resetEngine.Inv ∧
    (∀ addr, (s.addBreakpoint addr).1.Inv) ∧ (∀ addr, (s.removeBreakpoint addr).1.Inv) ∧
    (∀ v, (s.supplyInput v).Inv) ∧ (∀ img t, s.loadImage img = some t → t.Inv) ∧
    (∀ single t, iterate single s = .next t → t.Inv) ∧
    (∀ turns single t, run turns single s = .next t → t.Inv) ∧
    (∀ turns start t, execFrom turns start s = .next t → t.Inv) ∧
    (∀ turns t, stepCommand turns s = .ran (.next t) → t.Inv) ∧
    (∀ turns t, continueCommand turns s = .ran (.next t) → t.Inv)

/-! ### Rules over all instructions -/

/-- R32, R26: an instruction outside R32's rows leaves all of F, and POP PSW alone writes bits 5, 3 and 1 (the
spec's own choice, D8). -/
def Obligations.FlagBitsAreWrittenOnlyByTheirWriters : Prop :=
  ∀ (i : Instr) (s t : State), exec i s = .next t →
    (¬ MayWriteFlags i → t.f = s.f) ∧
    (i ≠ .popPsw →
      t.f.getLsbD 5 = s.f.getLsbD 5 ∧ t.f.getLsbD 3 = s.f.getLsbD 3 ∧ t.f.getLsbD 1 = s.f.getLsbD 1)

/-- R22: a general register is written only by the instructions R22 lists for it. -/
def Obligations.RegistersAreWrittenOnlyByTheirWriters : Prop :=
  ∀ (i : Instr) (s t : State) (r : Reg8), exec i s = .next t → ¬ MayWriteReg i r → t.reg r = s.reg r

/-- R34, R36: only control transfers leave PC off PCn, and only R36's instructions change SP. PC after HLT is the
spec's own choice D14; PC while IN waits is the model's inference, log 15. -/
def Obligations.PcAndSpAreWrittenOnlyByTheirWriters : Prop :=
  ∀ (i : Instr) (s t : State), exec i s = .next t →
    (¬ MayTransfer i → t.pc = s.pc) ∧ (¬ MayWriteSp i → t.sp = s.sp)

/-- R58, R51, R60: memory changes only at the data addresses of the instructions that store. -/
def Obligations.MemoryChangesOnlyWhereInstructionsStore : Prop :=
  ∀ (i : Instr) (s t : State), exec i s = .next t →
    (¬ Stores i → MemKept s t) ∧ MemKeptOutside (dataAddrs i s) s t

/-- R40, R41: no step changes the breakpoint set or the parameters. -/
def Obligations.StepsKeepBreakpointsAndParameters : Prop :=
  ∀ s t : State, step s = .next t → t.breakpoints = s.breakpoints ∧ t.cfg = s.cfg

/-- R270, R240: a step sends the host at most one event, after all that were sent before; only IN, OUT, EI, DI, RIM
and SIM send one. -/
def Obligations.EventsAreAppendedByTheirInstructions : Prop :=
  (∀ s t : State, step s = .next t → ∃ evs, t.events = s.events ++ evs ∧ evs.length ≤ 1) ∧
  ∀ (i : Instr) (s t : State), exec i s = .next t → ¬ MaySignalHost i → HostKept s t

/-- R245: a program cannot observe the breakpoint set or the paused flag: run from two states that differ only in
them, an instruction does the same and leaves them differing only so. -/
def Obligations.ProgramsCannotObserveBreakpointsOrPaused : Prop :=
  ∀ (i : Instr) (s : State) (bps : List Word) (p : Bool),
    exec i { s with breakpoints := bps, paused := p } =
      match exec i s with
      | .next t => .next { t with breakpoints := bps, paused := p }
      | .fault reason => .fault reason
      | .refused why => .refused why

/-! ### Data transfer -/

/-- R100: MOV r1,r2. -/
def Obligations.MovCopiesARegister : Prop :=
  ∀ (dst src : Reg8) (s : State),
    encode (.movReg dst src) = [0b01#2 ++ dst.code ++ src.code] ∧
    ∃ t, exec (.movReg dst src) s = .next t ∧ t.reg dst = s.reg src ∧
      t.sp = s.sp ∧ t.pc = s.pc ∧ MemKept s t ∧ KeptExcept [dst] [] s t

/-- R101: MOV r,M reads the byte at HL, HL being as before the write. -/
def Obligations.MovReadsTheByteAtHL : Prop :=
  ∀ (dst : Reg8) (s : State),
    encode (.movFromM dst) = [0b01#2 ++ dst.code ++ 0b110#3] ∧
    FaultsOnMissing (.movFromM dst) s [pair s.h s.l] ∧
    (s.hasByte (pair s.h s.l) →
      ∃ t, exec (.movFromM dst) s = .next t ∧ t.reg dst = s.readByte (pair s.h s.l) ∧
        t.sp = s.sp ∧ t.pc = s.pc ∧ MemKept s t ∧ KeptExcept [dst] [] s t)

/-- R102, R104, R107, R111: MOV M,r, MVI M, STA and STAX store one byte at the address their rule gives, and nothing
else changes. -/
def Obligations.OneByteStoresWriteTheirByte : Prop :=
  ∀ (i : Instr) (bytes : List Byte) (addr : Word) (v : Byte) (s : State),
    ((∃ src : Reg8, i = .movToM src ∧ bytes = [0b01110#5 ++ src.code] ∧ addr = pair s.h s.l ∧ v = s.reg src) ∨
      (∃ d8, i = .mviM d8 ∧ bytes = [0x36, d8] ∧ addr = pair s.h s.l ∧ v = d8) ∨
      (∃ a16, i = .sta a16 ∧ bytes = [0x32, lo a16, hi a16] ∧ addr = a16 ∧ v = s.a) ∨
      (i = .staxB ∧ bytes = [0x02] ∧ addr = pair s.b s.c ∧ v = s.a) ∨
      (i = .staxD ∧ bytes = [0x12] ∧ addr = pair s.d s.e ∧ v = s.a)) →
    encode i = bytes ∧ FaultsOnMissing i s [addr] ∧
    (Memory.wf s.mem → s.hasByte addr →
      ∃ t, exec i s = .next t ∧ t.readByte addr = v ∧ MemKeptOutside [addr] s t ∧
        t.sp = s.sp ∧ t.pc = s.pc ∧ KeptExcept [] [] s t)

/-- R103, R105: MVI r,d8 and LXI rp,d16 load their immediates. -/
def Obligations.ImmediateLoadsWriteTheirDestination : Prop :=
  (∀ (dst : Reg8) (d8 : Byte) (s : State),
    encode (.mviReg dst d8) = [0b00#2 ++ dst.code ++ 0b110#3, d8] ∧
    ∃ t, exec (.mviReg dst d8) s = .next t ∧ t.reg dst = d8 ∧
      t.sp = s.sp ∧ t.pc = s.pc ∧ MemKept s t ∧ KeptExcept [dst] [] s t) ∧
  ∀ (byte2 byte3 : Byte) (s : State),
    (∀ p : Pair, encode (.lxi p (pair byte3 byte2)) = [0b00#2 ++ p.code ++ 0b0001#4, byte2, byte3]) ∧
    (∃ t, exec (.lxi .bc (pair byte3 byte2)) s = .next t ∧ t.b = byte3 ∧ t.c = byte2 ∧
      t.sp = s.sp ∧ t.pc = s.pc ∧ MemKept s t ∧ KeptExcept [.b, .c] [] s t) ∧
    (∃ t, exec (.lxi .de (pair byte3 byte2)) s = .next t ∧ t.d = byte3 ∧ t.e = byte2 ∧
      t.sp = s.sp ∧ t.pc = s.pc ∧ MemKept s t ∧ KeptExcept [.d, .e] [] s t) ∧
    (∃ t, exec (.lxi .hl (pair byte3 byte2)) s = .next t ∧ t.h = byte3 ∧ t.l = byte2 ∧
      t.sp = s.sp ∧ t.pc = s.pc ∧ MemKept s t ∧ KeptExcept [.h, .l] [] s t) ∧
    ∃ t, exec (.lxi .sp (pair byte3 byte2)) s = .next t ∧ t.sp = pair byte3 byte2 ∧
      t.pc = s.pc ∧ MemKept s t ∧ KeptExcept [] [] s t

/-- R106, R110: LDA and LDAX load A from the address their rule gives. -/
def Obligations.AccumulatorLoadsReadTheirByte : Prop :=
  ∀ (i : Instr) (bytes : List Byte) (addr : Word) (s : State),
    ((∃ a16, i = .lda a16 ∧ bytes = [0x3A, lo a16, hi a16] ∧ addr = a16) ∨
      (i = .ldaxB ∧ bytes = [0x0A] ∧ addr = pair s.b s.c) ∨
      (i = .ldaxD ∧ bytes = [0x1A] ∧ addr = pair s.d s.e)) →
    encode i = bytes ∧ FaultsOnMissing i s [addr] ∧
    (s.hasByte addr →
      ∃ t, exec i s = .next t ∧ t.a = s.readByte addr ∧
        t.sp = s.sp ∧ t.pc = s.pc ∧ MemKept s t ∧ KeptExcept [.a] [] s t)

/-- R108: LHLD loads L from a16 and H from a16 + 1 modulo 2^16. -/
def Obligations.LhldLoadsLThenH : Prop :=
  ∀ (a16 : Word) (s : State),
    encode (.lhld a16) = [0x2A, lo a16, hi a16] ∧ FaultsOnMissing (.lhld a16) s [a16, a16 + 1] ∧
    (s.hasByte a16 → s.hasByte (a16 + 1) →
      ∃ t, exec (.lhld a16) s = .next t ∧ t.l = s.readByte a16 ∧ t.h = s.readByte (a16 + 1) ∧
        t.sp = s.sp ∧ t.pc = s.pc ∧ MemKept s t ∧ KeptExcept [.h, .l] [] s t)

/-- R109: SHLD stores L at a16 and H at a16 + 1 modulo 2^16. -/
def Obligations.ShldStoresLThenH : Prop :=
  ∀ (a16 : Word) (s : State),
    encode (.shld a16) = [0x22, lo a16, hi a16] ∧ FaultsOnMissing (.shld a16) s [a16, a16 + 1] ∧
    (Memory.wf s.mem → s.hasByte a16 → s.hasByte (a16 + 1) →
      ∃ t, exec (.shld a16) s = .next t ∧ t.readByte a16 = s.l ∧ t.readByte (a16 + 1) = s.h ∧
        MemKeptOutside [a16, a16 + 1] s t ∧ t.sp = s.sp ∧ t.pc = s.pc ∧ KeptExcept [] [] s t)

/-- R112, R205: XCHG exchanges H with D and L with E; SPHL copies HL to SP. -/
def Obligations.XchgAndSphlMovePairs : Prop :=
  ∀ s : State,
    encode .xchg = [0xEB] ∧
    (∃ t, exec .xchg s = .next t ∧ t.h = s.d ∧ t.l = s.e ∧ t.d = s.h ∧ t.e = s.l ∧
      t.sp = s.sp ∧ t.pc = s.pc ∧ MemKept s t ∧ KeptExcept [.d, .e, .h, .l] [] s t) ∧
    encode .sphl = [0xF9] ∧
    ∃ t, exec .sphl s = .next t ∧ t.sp = pair s.h s.l ∧ t.pc = s.pc ∧ MemKept s t ∧ KeptExcept [] [] s t

/-! ### Arithmetic -/

/-- R120, R123 to R128: ADD, ADC and their memory and immediate forms: the exact sum, truncated, and the five flags. -/
def Obligations.AdditionsAddAndSetFlags : Prop :=
  ∀ (op : AluOp) (cin : Bool) (src : Operand8) (s : State),
    (op = .add ∧ cin = false ∨ op = .adc ∧ cin = s.flag .cy) →
    encode (.alu op src) = op.bytes src ∧ FaultsOnMissing (.alu op src) s (s.operandAccess src) ∧
    ((∀ w ∈ s.operandAccess src, s.hasByte w) →
      ∃ t, exec (.alu op src) s = .next t ∧
        t.a.toNat = (s.a.toNat + (s.operandValue src).toNat + cin.toNat) % 256 ∧ SzpOf t.a t ∧
        t.flag .cy = decide (s.a.toNat + (s.operandValue src).toNat + cin.toNat > 255) ∧
        t.flag .ac = decide (s.a.toNat % 16 + (s.operandValue src).toNat % 16 + cin.toNat > 15) ∧
        t.sp = s.sp ∧ t.pc = s.pc ∧ MemKept s t ∧ KeptExcept [.a] [.s, .z, .ac, .p, .cy] s t)

/-- R121, R129 to R134: SUB, SBB and their memory and immediate forms: A less the operand less the borrow in, CY
exactly on a borrow (for every operand, the spec's own choice D5), AC exactly when no borrow passes between the
nibbles (D6). -/
def Obligations.SubtractionsSubtractAndSetFlags : Prop :=
  ∀ (op : AluOp) (bin : Bool) (src : Operand8) (s : State),
    (op = .sub ∧ bin = false ∨ op = .sbb ∧ bin = s.flag .cy) →
    encode (.alu op src) = op.bytes src ∧ FaultsOnMissing (.alu op src) s (s.operandAccess src) ∧
    ((∀ w ∈ s.operandAccess src, s.hasByte w) →
      ∃ t, exec (.alu op src) s = .next t ∧
        (t.a.toNat : Int) = ((s.a.toNat : Int) - (s.operandValue src).toNat - bin.toNat) % 256 ∧ SzpOf t.a t ∧
        t.flag .cy = decide (s.a.toNat < (s.operandValue src).toNat + bin.toNat) ∧
        t.flag .ac = decide ((s.operandValue src).toNat % 16 + bin.toNat ≤ s.a.toNat % 16) ∧
        t.sp = s.sp ∧ t.pc = s.pc ∧ MemKept s t ∧ KeptExcept [.a] [.s, .z, .ac, .p, .cy] s t)

/-- R160 to R162: CMP and CPI write the flags of the difference and keep A; Z exactly on equality, CY exactly on
unsigned less-than; AC by the spec's own choice D6. -/
def Obligations.ComparesSetFlagsAndKeepA : Prop :=
  ∀ (src : Operand8) (s : State),
    encode (.alu .cmp src) = AluOp.bytes .cmp src ∧ FaultsOnMissing (.alu .cmp src) s (s.operandAccess src) ∧
    ((∀ w ∈ s.operandAccess src, s.hasByte w) →
      ∃ t, exec (.alu .cmp src) s = .next t ∧ SzpOf (s.a - s.operandValue src) t ∧
        t.flag .z = decide (s.a = s.operandValue src) ∧
        t.flag .cy = decide (s.a.toNat < (s.operandValue src).toNat) ∧
        t.flag .ac = decide ((s.operandValue src).toNat % 16 ≤ s.a.toNat % 16) ∧
        t.sp = s.sp ∧ t.pc = s.pc ∧ MemKept s t ∧ KeptExcept [] [.s, .z, .ac, .p, .cy] s t)

/-- R150 to R159: AND, XOR and OR: the bitwise result, S, Z, P from it, CY and AC 0 (AC 0 after AND too, C1). -/
def Obligations.LogicalOperationsClearCarries : Prop :=
  ∀ (op : AluOp) (src : Operand8) (s : State) (res : Byte),
    (op = .ana ∧ res = s.a &&& s.operandValue src ∨ op = .xra ∧ res = s.a ^^^ s.operandValue src ∨
      op = .ora ∧ res = s.a ||| s.operandValue src) →
    encode (.alu op src) = op.bytes src ∧ FaultsOnMissing (.alu op src) s (s.operandAccess src) ∧
    ((∀ w ∈ s.operandAccess src, s.hasByte w) →
      ∃ t, exec (.alu op src) s = .next t ∧ t.a = res ∧ SzpOf res t ∧
        t.flag .cy = false ∧ t.flag .ac = false ∧
        t.sp = s.sp ∧ t.pc = s.pc ∧ MemKept s t ∧ KeptExcept [.a] [.s, .z, .ac, .p, .cy] s t)

/-- R135, R136: INR adds 1 to a register or to the byte at HL; AC exactly when the low nibble was 0xF; CY kept. -/
def Obligations.IncrementsKeepCarry : Prop :=
  ∀ s : State,
    (∀ r : Reg8, encode (.inrReg r) = [0b00#2 ++ r.code ++ 0b100#3] ∧
      ∃ t, exec (.inrReg r) s = .next t ∧ t.reg r = s.reg r + 1 ∧ SzpOf (t.reg r) t ∧
        t.flag .ac = decide ((s.reg r).toNat % 16 = 15) ∧
        t.sp = s.sp ∧ t.pc = s.pc ∧ MemKept s t ∧ KeptExcept [r] [.s, .z, .ac, .p] s t) ∧
    encode .inrM = [0x34] ∧ FaultsOnMissing .inrM s [s.hl] ∧
    (Memory.wf s.mem → s.hasByte s.hl →
      ∃ t, exec .inrM s = .next t ∧ t.readByte s.hl = s.readByte s.hl + 1 ∧ SzpOf (t.readByte s.hl) t ∧
        t.flag .ac = decide ((s.readByte s.hl).toNat % 16 = 15) ∧ MemKeptOutside [s.hl] s t ∧
        t.sp = s.sp ∧ t.pc = s.pc ∧ KeptExcept [] [.s, .z, .ac, .p] s t)

/-- R137, R138: DCR subtracts 1 from a register or from the byte at HL; AC exactly when the low nibble was not 0
(the spec's own choice D6); CY kept. -/
def Obligations.DecrementsKeepCarry : Prop :=
  ∀ s : State,
    (∀ r : Reg8, encode (.dcrReg r) = [0b00#2 ++ r.code ++ 0b101#3] ∧
      ∃ t, exec (.dcrReg r) s = .next t ∧ t.reg r = s.reg r - 1 ∧ SzpOf (t.reg r) t ∧
        t.flag .ac = decide ((s.reg r).toNat % 16 ≠ 0) ∧
        t.sp = s.sp ∧ t.pc = s.pc ∧ MemKept s t ∧ KeptExcept [r] [.s, .z, .ac, .p] s t) ∧
    encode .dcrM = [0x35] ∧ FaultsOnMissing .dcrM s [s.hl] ∧
    (Memory.wf s.mem → s.hasByte s.hl →
      ∃ t, exec .dcrM s = .next t ∧ t.readByte s.hl = s.readByte s.hl - 1 ∧ SzpOf (t.readByte s.hl) t ∧
        t.flag .ac = decide ((s.readByte s.hl).toNat % 16 ≠ 0) ∧ MemKeptOutside [s.hl] s t ∧
        t.sp = s.sp ∧ t.pc = s.pc ∧ KeptExcept [] [.s, .z, .ac, .p] s t)

/-- The registers of a pair; SP is no general register. -/
def pairRegs : Pair → List Reg8
  | .bc => [.b, .c]
  | .de => [.d, .e]
  | .hl => [.h, .l]
  | .sp => []

/-- R139, R140: INX and DCX add 1 to and subtract 1 from a pair or SP modulo 2^16, and write no flag. -/
def Obligations.InxAndDcxWriteNoFlag : Prop :=
  ∀ (p : Pair) (s : State),
    encode (.inx p) = [0b00#2 ++ p.code ++ 0b0011#4] ∧ encode (.dcx p) = [0b00#2 ++ p.code ++ 0b1011#4] ∧
    (∃ t, exec (.inx p) s = .next t ∧ (t.pairValue p).toNat = ((s.pairValue p).toNat + 1) % 65536 ∧
      (p ≠ .sp → t.sp = s.sp) ∧ t.f = s.f ∧ t.pc = s.pc ∧ MemKept s t ∧ KeptExcept (pairRegs p) [] s t) ∧
    ∃ t, exec (.dcx p) s = .next t ∧ (t.pairValue p).toNat = ((s.pairValue p).toNat + 65535) % 65536 ∧
      (p ≠ .sp → t.sp = s.sp) ∧ t.f = s.f ∧ t.pc = s.pc ∧ MemKept s t ∧ KeptExcept (pairRegs p) [] s t

/-- R141: DAD adds a pair or SP to HL modulo 2^16; CY is the carry out of bit 15 and no other flag is written. -/
def Obligations.DadAddsToHLAndWritesCarryOnly : Prop :=
  ∀ (p : Pair) (s : State),
    encode (.dad p) = [0b00#2 ++ p.code ++ 0b1001#4] ∧
    ∃ t, exec (.dad p) s = .next t ∧
      (pair t.h t.l).toNat = ((pair s.h s.l).toNat + (s.pairValue p).toNat) % 65536 ∧
      t.flag .cy = decide ((pair s.h s.l).toNat + (s.pairValue p).toNat > 65535) ∧
      t.sp = s.sp ∧ t.pc = s.pc ∧ MemKept s t ∧ KeptExcept [.h, .l] [.cy] s t

/-- R142: DAA in its two-step form: 6 is added to the low nibble if it exceeds 9 or AC = 1, then 6 to the high nibble
if it now exceeds 9 or CY = 1; CY is set on a carry out of that and never cleared, and AC is the carry out of bit 3 of
the low correction. The algorithm is the spec's own choice D24, this form its derivation in R142. -/
def Obligations.DaaAdjustsInTwoSteps : Prop :=
  ∀ (s : State) (low : Nat),
    low = s.a.toNat + (if s.a.toNat % 16 > 9 ∨ s.flag .ac = true then 6 else 0) →
    encode .daa = [0x27] ∧
    ∃ t, exec .daa s = .next t ∧
      t.a.toNat = (low + (if low / 16 > 9 ∨ s.flag .cy = true then 0x60 else 0)) % 256 ∧ SzpOf t.a t ∧
      t.flag .cy = (s.flag .cy || decide (low / 16 > 9)) ∧
      t.flag .ac = decide (s.a.toNat % 16 + (if s.a.toNat % 16 > 9 ∨ s.flag .ac = true then 6 else 0) > 15) ∧
      t.sp = s.sp ∧ t.pc = s.pc ∧ MemKept s t ∧ KeptExcept [.a] [.s, .z, .ac, .p, .cy] s t

/-! ### Rotates and carry -/

/-- R163 to R166: the rotates, bit by bit; each writes CY from the bit rotated out and no other flag. -/
def Obligations.RotatesMoveBitsAndWriteCarryOnly : Prop :=
  ∀ (i : Instr) (op : Byte) (left : Bool) (bitIn bitOut : Bool) (s : State),
    (i = .rlc ∧ op = 0x07 ∧ left = true ∧ bitIn = s.a.getLsbD 7 ∨
      i = .rrc ∧ op = 0x0F ∧ left = false ∧ bitIn = s.a.getLsbD 0 ∨
      i = .ral ∧ op = 0x17 ∧ left = true ∧ bitIn = s.flag .cy ∨
      i = .rar ∧ op = 0x1F ∧ left = false ∧ bitIn = s.flag .cy) →
    bitOut = s.a.getLsbD (if left then 7 else 0) →
    encode i = [op] ∧
    ∃ t, exec i s = .next t ∧ t.flag .cy = bitOut ∧
      (left = true → t.a.getLsbD 0 = bitIn ∧ ∀ k < 7, t.a.getLsbD (k + 1) = s.a.getLsbD k) ∧
      (left = false → t.a.getLsbD 7 = bitIn ∧ ∀ k < 7, t.a.getLsbD k = s.a.getLsbD (k + 1)) ∧
      t.sp = s.sp ∧ t.pc = s.pc ∧ MemKept s t ∧ KeptExcept [.a] [.cy] s t

/-- R167 to R169: CMA complements A and writes no flag; CMC complements CY and STC sets it, and neither writes
anything else. -/
def Obligations.CmaCmcAndStc : Prop :=
  ∀ s : State,
    encode .cma = [0x2F] ∧ encode .cmc = [0x3F] ∧ encode .stc = [0x37] ∧
    (∃ t, exec .cma s = .next t ∧ t.a.toNat = 255 - s.a.toNat ∧ t.f = s.f ∧
      t.sp = s.sp ∧ t.pc = s.pc ∧ MemKept s t ∧ KeptExcept [.a] [] s t) ∧
    (∃ t, exec .cmc s = .next t ∧ t.flag .cy = !s.flag .cy ∧
      t.sp = s.sp ∧ t.pc = s.pc ∧ MemKept s t ∧ KeptExcept [] [.cy] s t) ∧
    ∃ t, exec .stc s = .next t ∧ t.flag .cy = true ∧
      t.sp = s.sp ∧ t.pc = s.pc ∧ MemKept s t ∧ KeptExcept [] [.cy] s t

/-! ### Branches -/

/-- A condition by the one flag it tests and the value it wants (30_encoding.md R76). -/
def condTests : Cond → Flag × Bool
  | .nz => (.z, false)
  | .z => (.z, true)
  | .nc => (.cy, false)
  | .c => (.cy, true)
  | .po => (.p, false)
  | .pe => (.p, true)
  | .p => (.s, false)
  | .m => (.s, true)

/-- R181, R182, R188, R180, R76: JMP and PCHL set PC; Jccc does when its one flag has the value it tests, and otherwise
leaves PC at PCn. -/
def Obligations.JumpsSetPc : Prop :=
  ∀ (k : Cond) (a16 : Word) (s : State),
    encode (.jmp a16) = [0xC3, lo a16, hi a16] ∧ encode .pchl = [0xE9] ∧
    encode (.jcc k a16) = [0b11#2 ++ k.code ++ 0b010#3, lo a16, hi a16] ∧
    (∃ t, exec (.jmp a16) s = .next t ∧ t.pc = a16 ∧ t.sp = s.sp ∧ MemKept s t ∧ KeptExcept [] [] s t) ∧
    (∃ t, exec .pchl s = .next t ∧ t.pc = pair s.h s.l ∧ t.sp = s.sp ∧ MemKept s t ∧ KeptExcept [] [] s t) ∧
    ∃ t, exec (.jcc k a16) s = .next t ∧
      t.pc = (if s.flag (condTests k).1 = (condTests k).2 then a16 else s.pc) ∧
      t.sp = s.sp ∧ MemKept s t ∧ KeptExcept [] [] s t

/-- R183, R184, R187, R56: a taken CALL, Cccc or RST pushes PCn, high byte at SP-1 and low byte at SP-2, and
jumps. RST is the spec's own choice D17. -/
def Obligations.TakenCallsPushPcnAndJump : Prop :=
  ∀ (i : Instr) (bytes : List Byte) (target : Word) (s : State),
    ((∃ a16, i = .call a16 ∧ bytes = [0xCD, lo a16, hi a16] ∧ target = a16) ∨
      (∃ k a16, i = .ccc k a16 ∧ bytes = [0b11#2 ++ k.code ++ 0b100#3, lo a16, hi a16] ∧ target = a16 ∧
        s.flag (condTests k).1 = (condTests k).2) ∨
      (∃ n : Fin 8, i = .rst n ∧ bytes = [0b11#2 ++ BitVec.ofFin (w := 3) n ++ 0b111#3] ∧
        target = BitVec.ofNat 16 (n.val * 8))) →
    encode i = bytes ∧ FaultsOnMissing i s [s.sp - 1, s.sp - 2] ∧
    (Memory.wf s.mem → s.hasByte (s.sp - 1) → s.hasByte (s.sp - 2) →
      ∃ t, exec i s = .next t ∧ t.pc = target ∧ t.sp = s.sp - 2 ∧
        t.readByte (s.sp - 1) = hi s.pc ∧ t.readByte (s.sp - 2) = lo s.pc ∧
        MemKeptOutside [s.sp - 1, s.sp - 2] s t ∧ KeptExcept [] [] s t)

/-- R185, R186, R57: RET, and Rccc when taken, set PC to the word at SP and add 2 to SP. -/
def Obligations.TakenReturnsPopPc : Prop :=
  ∀ (i : Instr) (op : Byte) (s : State),
    (i = .ret ∧ op = 0xC9 ∨
      ∃ k, i = .rcc k ∧ op = 0b11#2 ++ k.code ++ 0b000#3 ∧ s.flag (condTests k).1 = (condTests k).2) →
    encode i = [op] ∧ FaultsOnMissing i s [s.sp, s.sp + 1] ∧
    (s.hasByte s.sp → s.hasByte (s.sp + 1) →
      ∃ t, exec i s = .next t ∧ t.pc = pair (s.readByte (s.sp + 1)) (s.readByte s.sp) ∧ t.sp = s.sp + 2 ∧
        MemKept s t ∧ KeptExcept [] [] s t)

/-- R184, R186: a Cccc or Rccc that is not taken changes nothing, in every state: no stack access is made. -/
def Obligations.UntakenCallsAndReturnsDoNothing : Prop :=
  ∀ (k : Cond) (a16 : Word) (s : State), s.flag (condTests k).1 ≠ (condTests k).2 →
    exec (.ccc k a16) s = .next s ∧ exec (.rcc k) s = .next s

/-! ### Stack -/

/-- R200, R201: PUSH stores the pair's high register at SP-1 and its low one at SP-2; for PSW, A and all of F. -/
def Obligations.PushStoresThePair : Prop :=
  ∀ (p : StackPair) (high low : Byte) (s : State),
    (p = .bc ∧ high = s.b ∧ low = s.c ∨ p = .de ∧ high = s.d ∧ low = s.e ∨
      p = .hl ∧ high = s.h ∧ low = s.l ∨ p = .psw ∧ high = s.a ∧ low = s.f) →
    encode (.push p) = [0b11#2 ++ p.code ++ 0b0101#4] ∧ FaultsOnMissing (.push p) s [s.sp - 1, s.sp - 2] ∧
    (Memory.wf s.mem → s.hasByte (s.sp - 1) → s.hasByte (s.sp - 2) →
      ∃ t, exec (.push p) s = .next t ∧ t.readByte (s.sp - 1) = high ∧ t.readByte (s.sp - 2) = low ∧
        t.sp = s.sp - 2 ∧ MemKeptOutside [s.sp - 1, s.sp - 2] s t ∧ t.pc = s.pc ∧ KeptExcept [] [] s t)

/-- R202, R203: POP loads the low register from SP and the high one from SP+1; POP PSW loads all eight bits of F
(the spec's own choice D8). -/
def Obligations.PopLoadsThePair : Prop :=
  ∀ (p : StackPair) (s : State),
    encode (.pop p) = [0b11#2 ++ p.code ++ 0b0001#4] ∧ FaultsOnMissing (.pop p) s [s.sp, s.sp + 1] ∧
    (s.hasByte s.sp → s.hasByte (s.sp + 1) →
      ∃ t, exec (.pop p) s = .next t ∧ t.sp = s.sp + 2 ∧ t.pc = s.pc ∧ MemKept s t ∧
        (p = .bc → t.b = s.readByte (s.sp + 1) ∧ t.c = s.readByte s.sp ∧ KeptExcept [.b, .c] [] s t) ∧
        (p = .de → t.d = s.readByte (s.sp + 1) ∧ t.e = s.readByte s.sp ∧ KeptExcept [.d, .e] [] s t) ∧
        (p = .hl → t.h = s.readByte (s.sp + 1) ∧ t.l = s.readByte s.sp ∧ KeptExcept [.h, .l] [] s t) ∧
        (p = .psw → t.a = s.readByte (s.sp + 1) ∧ t.f = s.readByte s.sp ∧
          RegsKeptExcept [.a] s t ∧ EngineKept s t ∧ HostKept s t))

/-- R204: XTHL exchanges L with the byte at SP and H with the byte at SP+1; SP stays. -/
def Obligations.XthlExchangesTheStackTop : Prop :=
  ∀ s : State,
    encode .xthl = [0xE3] ∧ FaultsOnMissing .xthl s [s.sp, s.sp + 1] ∧
    (Memory.wf s.mem → s.hasByte s.sp → s.hasByte (s.sp + 1) →
      ∃ t, exec .xthl s = .next t ∧ t.l = s.readByte s.sp ∧ t.h = s.readByte (s.sp + 1) ∧
        t.readByte s.sp = s.l ∧ t.readByte (s.sp + 1) = s.h ∧ MemKeptOutside [s.sp, s.sp + 1] s t ∧
        t.sp = s.sp ∧ t.pc = s.pc ∧ KeptExcept [.h, .l] [] s t)

/-- R200 to R203: POP undoes PUSH of the same pair: registers, F and SP are as they were. That bits 5, 3 and 1 of F
come back, for PSW by memory, is the spec's own choice D8 (log 12, 93 I4). -/
def Obligations.PopUndoesPush : Prop :=
  ∀ (p : StackPair) (s : State), Memory.wf s.mem → s.hasByte (s.sp - 1) → s.hasByte (s.sp - 2) →
    ∃ t u, exec (.push p) s = .next t ∧ exec (.pop p) t = .next u ∧
      (∀ r, u.reg r = s.reg r) ∧ u.f = s.f ∧ u.sp = s.sp

/-- R183, R185: RET undoes CALL: SP is as it was and PC is the instruction after CALL, whatever the callee did to the
registers, the flags and PC, if it left SP, memory and the parameters as CALL did. -/
def Obligations.RetReturnsFromCall : Prop :=
  ∀ (a16 : Word) (s : State), Memory.wf s.mem → s.hasByte (s.sp - 1) → s.hasByte (s.sp - 2) →
    ∃ t, exec (.call a16) s = .next t ∧ t.pc = a16 ∧
      ∀ u, u.sp = t.sp → MemKept t u → u.cfg = t.cfg →
        ∃ v, exec .ret u = .next v ∧ v.pc = s.pc ∧ v.sp = s.sp

/-- R65, R269: a store is seen by the very next fetch: after any instruction that stores, the next fetch gives the
instruction whose bytes stand at PC once the stored bytes are in place, whichever of its opcode and operand bytes the
store wrote (the spec's own choice D20). -/
def Obligations.StoresAreSeenByTheNextFetch : Prop :=
  ∀ (i : Instr) (s : State) (bytes : List (Word × Byte)), StoresBytes i s bytes → Memory.wf s.mem →
    (∀ b ∈ bytes, s.hasByte b.1) →
    ∃ t, exec i s = .next t ∧
      ∀ next : Instr,
        (∀ k < (encode next).length, s.hasByte (t.pc + BitVec.ofNat 16 k) ∧
          (encode next)[k]? = some (byteAfter s bytes (t.pc + BitVec.ofNat 16 k))) →
        t.fetch = .ok { instr := next, next := t.pc + BitVec.ofNat 16 (encode next).length }

/-! ### Input, output and control -/

/-- R206, R239: IN asks the host and, with an answer ready, completes with it in A and the status Running.
The hook is the spec's own choice D13; the list of answers is the model's, log 8. -/
def Obligations.InTakesTheHostsAnswer : Prop :=
  ∀ (port v : Byte) (rest : List Byte) (s : State), s.hostIn = v :: rest →
    encode (.inPort port) = [0xDB, port] ∧
    ∃ t, exec (.inPort port) s = .next t ∧ t.a = v ∧ t.status = .running ∧ t.hostIn = rest ∧
      t.events = s.events ++ [.inHook port] ∧ t.f = s.f ∧ t.sp = s.sp ∧ t.pc = s.pc ∧ MemKept s t ∧
      RegsKeptExcept [.a] s t ∧ t.paused = s.paused ∧ t.breakpoints = s.breakpoints ∧ t.cfg = s.cfg

/-- R239: with no answer ready IN leaves the engine BlockedIn, where steps change nothing until the host supplies a byte;
then A gets the byte, the status is Running, and the breakpoint check applies. BlockedIn is the spec's own choice D30;
the list of answers (log 8), PC at PCn while IN waits (log 15, an inference) and what a step of a BlockedIn engine is
(log 5) are the model's. -/
def Obligations.InWaitsUntilTheHostAnswers : Prop :=
  ∀ (port v : Byte) (s : State), s.hostIn = [] →
    ∃ t, exec (.inPort port) s = .next t ∧
      t = { s with status := .blockedIn, events := s.events ++ [.inHook port] } ∧
      step t = .next t ∧
      step (t.supplyInput v) = .next
        (if s.pc ∈ s.breakpoints then { t with a := v, status := .paused, paused := true }
          else { t with a := v, status := .running })

/-- R207 to R211, R226: OUT sends OutHook(port, A); EI, DI, RIM and SIM send Diagnostic of their opcode; nothing else
changes, A among it after RIM. The hook and the diagnostic event are the spec's own choices D13 and D12; the list of
events is the model's, log 8. -/
def Obligations.OutAndUnimplementedOpcodesOnlySignal : Prop :=
  ∀ (i : Instr) (bytes : List Byte) (ev : HostEvent) (s : State),
    ((∃ port, i = .outPort port ∧ bytes = [0xD3, port] ∧ ev = .outHook port s.a) ∨
      (i = .ei ∧ bytes = [0xFB] ∧ ev = .diagnostic 0xFB) ∨ (i = .di ∧ bytes = [0xF3] ∧ ev = .diagnostic 0xF3) ∨
      (i = .rim ∧ bytes = [0x20] ∧ ev = .diagnostic 0x20) ∨ (i = .sim ∧ bytes = [0x30] ∧ ev = .diagnostic 0x30)) →
    encode i = bytes ∧ exec i s = .next { s with events := s.events ++ [ev] }

/-- R212, R213, R232: HLT sets the status Halted and nothing else; NOP changes nothing. At PC, HLT makes an active
engine Halted with PC after it, whether or not that is a breakpoint and whether or not single-stepping; NOP only
advances PC. PC after HLT and the order of the checks are the spec's own choices D14 and D15. -/
def Obligations.HltStopsAndNopAdvances : Prop :=
  ∀ (single : Bool) (s : State),
    encode .hlt = [0x76] ∧ exec .hlt s = .next { s with status := .halted } ∧
    encode .nop = [0x00] ∧ exec .nop s = .next s ∧
    (s.active → s.hasByte s.pc → s.readByte s.pc = 0x76 →
      iterate single s = .next { s with pc := s.pc + 1, status := .halted, paused := false }) ∧
    (s.active → s.hasByte s.pc → s.readByte s.pc = 0x00 → single = false → s.pc + 1 ∉ s.breakpoints →
      iterate single s = .next { s with pc := s.pc + 1, status := .running, paused := false })

/-! ### The controller -/

/-- R235, R236, R237: the breakpoint functions' answers and effects. -/
def Obligations.BreakpointFunctions : Prop :=
  ∀ (s : State) (addr : Word),
    (addr ∈ s.listBreakpoints → s.addBreakpoint addr = (s, true)) ∧
    (addr ∉ s.listBreakpoints → s.listBreakpoints.length ≥ s.cfg.bpCapacity → s.addBreakpoint addr = (s, false)) ∧
    (addr ∉ s.listBreakpoints → s.listBreakpoints.length < s.cfg.bpCapacity →
      s.addBreakpoint addr = ({ s with breakpoints := s.listBreakpoints ++ [addr] }, true)) ∧
    (addr ∉ s.listBreakpoints → s.removeBreakpoint addr = (s, false)) ∧
    (∀ pre post, s.listBreakpoints = pre ++ addr :: post → addr ∉ pre →
      s.removeBreakpoint addr = ({ s with breakpoints := pre ++ post }, true))

/-- R231 to R233, R238, R239: step() and continue() of a paused engine run the instruction at PC, breakpoint there or
not. A fault leaves the engine Faulted, HLT leaves it Halted and not paused, and IN without an answer leaves it
BlockedIn, to pause after the answer when the run goes on single-stepping. After one that completed, step() pauses, and
continue() pauses at a breakpoint and otherwise goes on with the run. Of an engine that is not paused both are the
caller's error. The spec's own choices are D4, D11, D14, D15, D16, D29 and D30; the model's are turns and going on with a
run in progress (log 10), the list of answers (log 8), PC while IN waits (log 15) and giving single_step again (log 18). -/
def Obligations.StepAndContinueOfAPausedEngine : Prop :=
  ∀ (s : State) (turns : Nat),
    (s.paused = false → stepCommand turns s = .callerError ∧ continueCommand turns s = .callerError) ∧
    (s.paused = true → s.status = .paused →
      (∀ reason, s.fetch = .error reason →
        stepCommand (turns + 1) s = .ran (.next (s.afterFault reason)) ∧
        continueCommand (turns + 1) s = .ran (.next (s.afterFault reason))) ∧
      ∀ (i : Instr) (next : Word), s.fetch = .ok { instr := i, next := next } →
        (∀ reason, exec i { s with pc := next, status := .running, paused := false } = .fault reason →
          stepCommand (turns + 1) s = .ran (.next (s.afterFault reason)) ∧
          continueCommand (turns + 1) s = .ran (.next (s.afterFault reason))) ∧
        (i = .hlt →
          stepCommand (turns + 1) s = .ran (.next { s with pc := next, status := .halted, paused := false }) ∧
          continueCommand (turns + 1) s = .ran (.next { s with pc := next, status := .halted, paused := false })) ∧
        (∀ port w, i = .inPort port → s.hostIn = [] →
          w = { s with pc := next, status := .blockedIn, paused := false, events := s.events ++ [.inHook port] } →
          stepCommand (turns + 1) s = .ran (.next w) ∧ continueCommand (turns + 1) s = .ran (.next w) ∧
          ∀ v, run (turns + 1) true (w.supplyInput v) = .next { w with a := v, status := .paused, paused := true }) ∧
        ∀ u, exec i { s with pc := next, status := .running, paused := false } = .next u → u.status = .running →
          stepCommand (turns + 1) s = .ran (.next { u with status := .paused, paused := true }) ∧
          continueCommand (turns + 1) s = .ran
            (if u.pc ∈ u.breakpoints then .next { u with status := .paused, paused := true } else run turns false u))

/-- R260, R261, R265: a reset sets the registers, F and SP from INIT_REGS, PC from ENTRY, status Ready and paused false,
and keeps the breakpoint set and memory (the spec's own choices D9, D10, D26). Of an engine whose run is in progress it
is the model's choice, log 19. -/
def Obligations.ResetSetsRegistersAndKeepsMemory : Prop :=
  ∀ s : State,
    s.resetEngine.a = s.cfg.initRegs.a ∧ s.resetEngine.b = s.cfg.initRegs.b ∧ s.resetEngine.c = s.cfg.initRegs.c ∧
    s.resetEngine.d = s.cfg.initRegs.d ∧ s.resetEngine.e = s.cfg.initRegs.e ∧ s.resetEngine.h = s.cfg.initRegs.h ∧
    s.resetEngine.l = s.cfg.initRegs.l ∧ s.resetEngine.f = s.cfg.initRegs.f ∧ s.resetEngine.sp = s.cfg.initRegs.sp ∧
    s.resetEngine.pc = s.cfg.entry ∧ s.resetEngine.status = .ready ∧ s.resetEngine.paused = false ∧
    s.resetEngine.breakpoints = s.breakpoints ∧ s.resetEngine.mem = s.mem ∧ s.resetEngine.cfg = s.cfg

/-- R231, R233, R238: exec(start), and continue() of a paused engine, are steps, one after another from the machine with
the run just entered (for exec with PC at start), each made while the run is in progress; all the turns given are made,
unless the run returns before. The entry points are the spec's own choices D16 and D29; a step is one turn of run(false)
(log 5), and turns (log 10) and exec(start) of an engine whose run is in progress (log 19) are the model's. -/
def Obligations.RunsAreRepeatedSteps : Prop :=
  ∀ (turns : Nat) (s : State),
    (∀ start, RunsBySteps turns { s with pc := start, status := .running, paused := false } (execFrom turns start s)) ∧
    (s.paused = true → s.status = .paused →
      ∃ r, continueCommand turns s = .ran r ∧
        RunsBySteps turns { s with status := .running, paused := false } r)
end

