-- ==== Sys2Proof/Laws/DataAddrs.lean ====
section
/-! SUPPORT. The data addresses of each family of instructions, so that no proof unfolds dataAddrs. -/
namespace Sys2Proof.Machine

theorem dataAddrs_movReg (dst src : Reg8) (s : State) : dataAddrs (.movReg dst src) s = [] := by
  cases dst <;> cases src <;> rfl

theorem dataAddrs_movFromM (dst : Reg8) (s : State) : dataAddrs (.movFromM dst) s = [s.hl] := by
  cases dst <;> rfl

theorem dataAddrs_movToM (src : Reg8) (s : State) : dataAddrs (.movToM src) s = [s.hl] := by
  cases src <;> rfl

theorem dataAddrs_mviReg (dst : Reg8) (d8 : Byte) (s : State) : dataAddrs (.mviReg dst d8) s = [] := by
  cases dst <;> rfl

theorem dataAddrs_lxi (p : Pair) (d16 : Word) (s : State) : dataAddrs (.lxi p d16) s = [] := by
  cases p <;> rfl

theorem dataAddrs_alu (op : AluOp) (src : Operand8) (s : State) :
    dataAddrs (.alu op src) s = s.operandAccess src := by
  cases op <;> rcases src with r | _ | d8 <;> first | rfl | (cases r <;> rfl)

theorem dataAddrs_inrReg (r : Reg8) (s : State) : dataAddrs (.inrReg r) s = [] := by
  cases r <;> rfl

theorem dataAddrs_dcrReg (r : Reg8) (s : State) : dataAddrs (.dcrReg r) s = [] := by
  cases r <;> rfl

theorem dataAddrs_inx (p : Pair) (s : State) : dataAddrs (.inx p) s = [] := by
  cases p <;> rfl

theorem dataAddrs_dcx (p : Pair) (s : State) : dataAddrs (.dcx p) s = [] := by
  cases p <;> rfl

theorem dataAddrs_dad (p : Pair) (s : State) : dataAddrs (.dad p) s = [] := by
  cases p <;> rfl

theorem dataAddrs_jcc (k : Cond) (a16 : Word) (s : State) : dataAddrs (.jcc k a16) s = [] := by
  cases k <;> rfl

theorem dataAddrs_ccc (k : Cond) (a16 : Word) (s : State) :
    dataAddrs (.ccc k a16) s = if s.cond k then s.pushAddrs else [] := by
  cases k <;> rfl

theorem dataAddrs_rcc (k : Cond) (s : State) :
    dataAddrs (.rcc k) s = if s.cond k then s.popAddrs else [] := by
  cases k <;> rfl

theorem dataAddrs_rst (n : Fin 8) (s : State) : dataAddrs (.rst n) s = s.pushAddrs := by
  fin_cases n <;> rfl

theorem dataAddrs_push (p : StackPair) (s : State) : dataAddrs (.push p) s = s.pushAddrs := by
  cases p <;> rfl

theorem dataAddrs_pop (p : StackPair) (s : State) : dataAddrs (.pop p) s = s.popAddrs := by
  cases p <;> rfl

end Sys2Proof.Machine
end

