-- ==== Sys2Proof/Laws/Decode.lean ====
section
/-! SUPPORT. The laws of the decoder's parts: which opcodes are instructions, and the format of an encoding. -/
namespace Sys2Proof

/-- decodeOp answers exactly for the bytes that have a format (30_encoding.md R72, R86). -/
theorem decodeOp_isSome (op byte2 byte3 : Byte) : (decodeOp op byte2 byte3).isSome = (opFormat op).isSome := by
  have hzero : ∀ op : Byte, (decodeOp op 0 0).isSome = (opFormat op).isSome := by decide
  rw [← hzero op]
  unfold decodeOp decodeQuadrant0 decodeQuadrant1 decodeQuadrant2 decodeQuadrant3
  generalize field3 op 3 = y
  generalize field3 op 0 = z
  split
  · split <;> try rfl
    all_goals split <;> rfl
  · rfl
  · rfl
  · split <;> try rfl
    all_goals split <;> rfl

/-- A byte with a format decodes, whatever its operand bytes. -/
theorem decoded_of_format {op byte2 byte3 : Byte} {rest : List Byte} (h : (opFormat op).isSome) :
    ∃ i, decodeOp op byte2 byte3 = some i ∧ decode.decoded op byte2 byte3 rest = .ok (i, rest) := by
  obtain ⟨i, hi⟩ := Option.isSome_iff_exists.mp ((decodeOp_isSome op byte2 byte3).trans h)
  exact ⟨i, hi, by simp [decode.decoded, hi]⟩

/-- The bytes without a format are the ten (30_encoding.md R86). -/
theorem opFormat_eq_none_iff : ∀ op : Byte, opFormat op = none ↔ op ∈ illegalOpcodes := by decide

/-- The format of an encoding's opcode byte has the encoding's length (30_encoding.md R71, R72). -/
theorem format_of_encode {i : Instr} {op : Byte} {operands : List Byte} (h : encode i = op :: operands) :
    ∃ fmt, opFormat op = some fmt ∧ fmt.length = operands.length + 1 := by
  cases i <;>
    (simp only [encode, List.cons.injEq] at h
     obtain ⟨rfl, rfl⟩ := h
     exact ⟨_, rfl, rfl⟩)

end Sys2Proof
end

