-- ==== Sys2Proof/Laws/Memory.lean ====
section
/-! SUPPORT. The laws of memory: a read after a write, and that every write keeps the canonical form. -/
namespace Sys2Proof.Machine

/-- A write leaves every other address alone. -/
theorem Memory.read_write_of_ne {m : Memory} {addr other : Nat} {v : Byte} (h : other ≠ addr) :
    Memory.read (Memory.write m addr v) other = Memory.read m other := by
  induction m with
  | nil =>
    by_cases hv : v = Memory.blank <;> simp [Memory.write, Memory.read, hv, Ne.symm h]
  | cons cell rest ih =>
    simp only [Memory.write]
    split
    · split <;> simp [Memory.read, Ne.symm h]
    · split
      · next heq => split <;> simp [Memory.read, Ne.symm h, ← heq]
      · simp [Memory.read, ih]

/-- An address below every listed one reads as an unlisted one. -/
theorem Memory.read_of_lt {m : Memory} {addr : Nat} (h : ∀ cell ∈ m, addr < cell.1) :
    Memory.read m addr = Memory.blank := by
  induction m with
  | nil => rfl
  | cons cell rest ih =>
    have hne : cell.1 ≠ addr := by have := h cell (by simp); omega
    simp [Memory.read, hne, ih (fun x hx => h x (by simp [hx]))]

/-- In canonical form, a read after a write to the same address gives the byte written. -/
theorem Memory.read_write_same {m : Memory} {addr : Nat} {v : Byte} (hm : Memory.wf m) :
    Memory.read (Memory.write m addr v) addr = v := by
  induction m with
  | nil => by_cases hv : v = Memory.blank <;> simp [Memory.write, Memory.read, hv]
  | cons cell rest ih =>
    obtain ⟨hp, hb⟩ := hm
    rw [List.pairwise_cons] at hp
    simp only [Memory.write]
    split
    · next hlt =>
      split
      · next hv =>
        rw [hv]
        refine Memory.read_of_lt fun x hx => ?_
        rcases List.mem_cons.mp hx with rfl | hx
        · exact hlt
        · exact hlt.trans (hp.1 x hx)
      · simp [Memory.read]
    · split
      · next heq =>
        split
        · next hv =>
          rw [hv]
          exact Memory.read_of_lt fun x hx => heq ▸ hp.1 x hx
        · simp [Memory.read]
      · next hne =>
        simp [Memory.read, Ne.symm hne, ih ⟨hp.2, fun x hx => hb x (by simp [hx])⟩]

/-- What a written memory lists: the cell written, or a cell listed before. -/
theorem Memory.mem_write {m : Memory} {addr : Nat} {v : Byte} {cell : Host.Cell}
    (h : cell ∈ Memory.write m addr v) : (cell = (addr, v) ∧ v ≠ Memory.blank) ∨ cell ∈ m := by
  induction m with
  | nil =>
    by_cases hv : v = Memory.blank
    · simp [Memory.write, hv] at h
    · simp only [Memory.write, hv, if_false, List.mem_singleton] at h
      exact .inl ⟨h, hv⟩
  | cons head rest ih =>
    simp only [Memory.write] at h
    split at h
    · split at h
      · exact .inr h
      · next hv => rcases List.mem_cons.mp h with rfl | h
                   · exact .inl ⟨rfl, hv⟩
                   · exact .inr h
    · split at h
      · split at h
        · exact .inr (List.mem_cons_of_mem _ h)
        · next hv => rcases List.mem_cons.mp h with rfl | h
                     · exact .inl ⟨rfl, hv⟩
                     · exact .inr (List.mem_cons_of_mem _ h)
      · rcases List.mem_cons.mp h with rfl | h
        · exact .inr (by simp)
        · exact (ih h).imp_right (List.mem_cons_of_mem _)

/-- A write keeps the canonical form. -/
theorem Memory.wf_write {m : Memory} {addr : Nat} {v : Byte} (hm : Memory.wf m) :
    Memory.wf (Memory.write m addr v) := by
  refine ⟨?_, fun cell hc => ?_⟩
  · induction m with
    | nil => by_cases hv : v = Memory.blank <;> simp [Memory.write, hv]
    | cons head rest ih =>
      obtain ⟨hp, hb⟩ := hm
      have hp' := List.pairwise_cons.mp hp
      have ih' := ih ⟨hp'.2, fun x hx => hb x (by simp [hx])⟩
      simp only [Memory.write]
      split
      · next hlt =>
        split
        · exact hp
        · refine List.pairwise_cons.mpr ⟨fun x hx => ?_, hp⟩
          rcases List.mem_cons.mp hx with rfl | hx
          · exact hlt
          · exact hlt.trans (hp'.1 x hx)
      · split
        · next heq =>
          split
          · exact hp'.2
          · exact List.pairwise_cons.mpr ⟨fun x hx => heq ▸ hp'.1 x hx, hp'.2⟩
        · refine List.pairwise_cons.mpr ⟨fun x hx => ?_, ih'⟩
          rcases Memory.mem_write hx with ⟨rfl, -⟩ | hx
          · simp only; omega
          · exact hp'.1 x hx
  · rcases Memory.mem_write hc with ⟨rfl, hv⟩ | hc
    · exact hv
    · exact hm.2 cell hc

/-- A write below a bound keeps every listed address below it. -/
theorem Memory.bounded_write {m : Memory} {addr bound : Nat} {v : Byte}
    (hm : ∀ cell ∈ m, cell.1 < bound) (ha : addr < bound) :
    ∀ cell ∈ Memory.write m addr v, cell.1 < bound := by
  intro cell hc
  rcases Memory.mem_write hc with ⟨rfl, -⟩ | hc
  · exact ha
  · exact hm cell hc

/-- Memories in canonical form that read alike are equal. -/
theorem Memory.ext_of_read {m n : Memory} (hm : Memory.wf m) (hn : Memory.wf n)
    (h : ∀ addr, Memory.read m addr = Memory.read n addr) : m = n := by
  induction m generalizing n with
  | nil =>
    cases n with
    | nil => rfl
    | cons y ys => exact absurd (by simpa [Memory.read] using (h y.1).symm) (hn.2 y (by simp))
  | cons x xs ih =>
    have hx := List.pairwise_cons.mp hm.1
    cases n with
    | nil => exact absurd (by simpa [Memory.read] using h x.1) (hm.2 x (by simp))
    | cons y ys =>
      have hy := List.pairwise_cons.mp hn.1
      have hxy : x.1 = y.1 := by
        rcases Nat.lt_trichotomy x.1 y.1 with hlt | heq | hlt
        · have : Memory.read (y :: ys) x.1 = Memory.blank := by
            refine Memory.read_of_lt fun z hz => ?_
            rcases List.mem_cons.mp hz with rfl | hz
            · exact hlt
            · exact hlt.trans (hy.1 z hz)
          exact absurd (by rw [← h] at this; simpa [Memory.read] using this) (hm.2 x (by simp))
        · exact heq
        · have : Memory.read (x :: xs) y.1 = Memory.blank := by
            refine Memory.read_of_lt fun z hz => ?_
            rcases List.mem_cons.mp hz with rfl | hz
            · exact hlt
            · exact hlt.trans (hx.1 z hz)
          exact absurd (by rw [h] at this; simpa [Memory.read] using this) (hn.2 y (by simp))
      have hv : x.2 = y.2 := by simpa [Memory.read, hxy] using h x.1
      have hcell : x = y := Prod.ext hxy hv
      subst hcell
      congr 1
      refine ih ⟨hx.2, fun z hz => hm.2 z (by simp [hz])⟩ ⟨hy.2, fun z hz => hn.2 z (by simp [hz])⟩ fun addr => ?_
      by_cases ha : x.1 = addr
      · subst ha
        rw [Memory.read_of_lt hx.1, Memory.read_of_lt hy.1]
      · simpa [Memory.read, ha] using h addr

end Sys2Proof.Machine
end

