-- ==== Sys2Proof/Laws/State.lean ====
section
/-! SUPPORT. One lemma per field per named update of the state, true by unfolding, so that no later proof unfolds a
record update. -/
namespace Sys2Proof.Machine

@[simp] theorem writeByte_a (s : State) (addr : Word) (v : Byte) : (s.writeByte addr v).a = s.a := rfl
@[simp] theorem writeByte_b (s : State) (addr : Word) (v : Byte) : (s.writeByte addr v).b = s.b := rfl
@[simp] theorem writeByte_c (s : State) (addr : Word) (v : Byte) : (s.writeByte addr v).c = s.c := rfl
@[simp] theorem writeByte_d (s : State) (addr : Word) (v : Byte) : (s.writeByte addr v).d = s.d := rfl
@[simp] theorem writeByte_e (s : State) (addr : Word) (v : Byte) : (s.writeByte addr v).e = s.e := rfl
@[simp] theorem writeByte_h (s : State) (addr : Word) (v : Byte) : (s.writeByte addr v).h = s.h := rfl
@[simp] theorem writeByte_l (s : State) (addr : Word) (v : Byte) : (s.writeByte addr v).l = s.l := rfl
@[simp] theorem writeByte_f (s : State) (addr : Word) (v : Byte) : (s.writeByte addr v).f = s.f := rfl
@[simp] theorem writeByte_pc (s : State) (addr : Word) (v : Byte) : (s.writeByte addr v).pc = s.pc := rfl
@[simp] theorem writeByte_sp (s : State) (addr : Word) (v : Byte) : (s.writeByte addr v).sp = s.sp := rfl
@[simp] theorem writeByte_mem (s : State) (addr : Word) (v : Byte) : (s.writeByte addr v).mem = s.mem.write addr.toNat v := rfl
@[simp] theorem writeByte_status (s : State) (addr : Word) (v : Byte) : (s.writeByte addr v).status = s.status := rfl
@[simp] theorem writeByte_paused (s : State) (addr : Word) (v : Byte) : (s.writeByte addr v).paused = s.paused := rfl
@[simp] theorem writeByte_breakpoints (s : State) (addr : Word) (v : Byte) : (s.writeByte addr v).breakpoints = s.breakpoints := rfl
@[simp] theorem writeByte_hostIn (s : State) (addr : Word) (v : Byte) : (s.writeByte addr v).hostIn = s.hostIn := rfl
@[simp] theorem writeByte_events (s : State) (addr : Word) (v : Byte) : (s.writeByte addr v).events = s.events := rfl
@[simp] theorem writeByte_cfg (s : State) (addr : Word) (v : Byte) : (s.writeByte addr v).cfg = s.cfg := rfl

@[simp] theorem writeWord_a (s : State) (addr v : Word) : (s.writeWord addr v).a = s.a := rfl
@[simp] theorem writeWord_b (s : State) (addr v : Word) : (s.writeWord addr v).b = s.b := rfl
@[simp] theorem writeWord_c (s : State) (addr v : Word) : (s.writeWord addr v).c = s.c := rfl
@[simp] theorem writeWord_d (s : State) (addr v : Word) : (s.writeWord addr v).d = s.d := rfl
@[simp] theorem writeWord_e (s : State) (addr v : Word) : (s.writeWord addr v).e = s.e := rfl
@[simp] theorem writeWord_h (s : State) (addr v : Word) : (s.writeWord addr v).h = s.h := rfl
@[simp] theorem writeWord_l (s : State) (addr v : Word) : (s.writeWord addr v).l = s.l := rfl
@[simp] theorem writeWord_f (s : State) (addr v : Word) : (s.writeWord addr v).f = s.f := rfl
@[simp] theorem writeWord_pc (s : State) (addr v : Word) : (s.writeWord addr v).pc = s.pc := rfl
@[simp] theorem writeWord_sp (s : State) (addr v : Word) : (s.writeWord addr v).sp = s.sp := rfl
@[simp] theorem writeWord_mem (s : State) (addr v : Word) : (s.writeWord addr v).mem = (s.mem.write addr.toNat (lo v)).write (addr + 1).toNat (hi v) := rfl
@[simp] theorem writeWord_status (s : State) (addr v : Word) : (s.writeWord addr v).status = s.status := rfl
@[simp] theorem writeWord_paused (s : State) (addr v : Word) : (s.writeWord addr v).paused = s.paused := rfl
@[simp] theorem writeWord_breakpoints (s : State) (addr v : Word) : (s.writeWord addr v).breakpoints = s.breakpoints := rfl
@[simp] theorem writeWord_hostIn (s : State) (addr v : Word) : (s.writeWord addr v).hostIn = s.hostIn := rfl
@[simp] theorem writeWord_events (s : State) (addr v : Word) : (s.writeWord addr v).events = s.events := rfl
@[simp] theorem writeWord_cfg (s : State) (addr v : Word) : (s.writeWord addr v).cfg = s.cfg := rfl

@[simp] theorem push16_a (s : State) (v : Word) : (s.push16 v).a = s.a := rfl
@[simp] theorem push16_b (s : State) (v : Word) : (s.push16 v).b = s.b := rfl
@[simp] theorem push16_c (s : State) (v : Word) : (s.push16 v).c = s.c := rfl
@[simp] theorem push16_d (s : State) (v : Word) : (s.push16 v).d = s.d := rfl
@[simp] theorem push16_e (s : State) (v : Word) : (s.push16 v).e = s.e := rfl
@[simp] theorem push16_h (s : State) (v : Word) : (s.push16 v).h = s.h := rfl
@[simp] theorem push16_l (s : State) (v : Word) : (s.push16 v).l = s.l := rfl
@[simp] theorem push16_f (s : State) (v : Word) : (s.push16 v).f = s.f := rfl
@[simp] theorem push16_pc (s : State) (v : Word) : (s.push16 v).pc = s.pc := rfl
@[simp] theorem push16_sp (s : State) (v : Word) : (s.push16 v).sp = s.sp - 2 := rfl
@[simp] theorem push16_mem (s : State) (v : Word) : (s.push16 v).mem = (s.mem.write (s.sp - 1).toNat (hi v)).write (s.sp - 2).toNat (lo v) := rfl
@[simp] theorem push16_status (s : State) (v : Word) : (s.push16 v).status = s.status := rfl
@[simp] theorem push16_paused (s : State) (v : Word) : (s.push16 v).paused = s.paused := rfl
@[simp] theorem push16_breakpoints (s : State) (v : Word) : (s.push16 v).breakpoints = s.breakpoints := rfl
@[simp] theorem push16_hostIn (s : State) (v : Word) : (s.push16 v).hostIn = s.hostIn := rfl
@[simp] theorem push16_events (s : State) (v : Word) : (s.push16 v).events = s.events := rfl
@[simp] theorem push16_cfg (s : State) (v : Word) : (s.push16 v).cfg = s.cfg := rfl

@[simp] theorem dropWord_a (s : State) : (s.dropWord).a = s.a := rfl
@[simp] theorem dropWord_b (s : State) : (s.dropWord).b = s.b := rfl
@[simp] theorem dropWord_c (s : State) : (s.dropWord).c = s.c := rfl
@[simp] theorem dropWord_d (s : State) : (s.dropWord).d = s.d := rfl
@[simp] theorem dropWord_e (s : State) : (s.dropWord).e = s.e := rfl
@[simp] theorem dropWord_h (s : State) : (s.dropWord).h = s.h := rfl
@[simp] theorem dropWord_l (s : State) : (s.dropWord).l = s.l := rfl
@[simp] theorem dropWord_f (s : State) : (s.dropWord).f = s.f := rfl
@[simp] theorem dropWord_pc (s : State) : (s.dropWord).pc = s.pc := rfl
@[simp] theorem dropWord_sp (s : State) : (s.dropWord).sp = s.sp + 2 := rfl
@[simp] theorem dropWord_mem (s : State) : (s.dropWord).mem = s.mem := rfl
@[simp] theorem dropWord_status (s : State) : (s.dropWord).status = s.status := rfl
@[simp] theorem dropWord_paused (s : State) : (s.dropWord).paused = s.paused := rfl
@[simp] theorem dropWord_breakpoints (s : State) : (s.dropWord).breakpoints = s.breakpoints := rfl
@[simp] theorem dropWord_hostIn (s : State) : (s.dropWord).hostIn = s.hostIn := rfl
@[simp] theorem dropWord_events (s : State) : (s.dropWord).events = s.events := rfl
@[simp] theorem dropWord_cfg (s : State) : (s.dropWord).cfg = s.cfg := rfl

@[simp] theorem emit_a (s : State) (ev : HostEvent) : (s.emit ev).a = s.a := rfl
@[simp] theorem emit_b (s : State) (ev : HostEvent) : (s.emit ev).b = s.b := rfl
@[simp] theorem emit_c (s : State) (ev : HostEvent) : (s.emit ev).c = s.c := rfl
@[simp] theorem emit_d (s : State) (ev : HostEvent) : (s.emit ev).d = s.d := rfl
@[simp] theorem emit_e (s : State) (ev : HostEvent) : (s.emit ev).e = s.e := rfl
@[simp] theorem emit_h (s : State) (ev : HostEvent) : (s.emit ev).h = s.h := rfl
@[simp] theorem emit_l (s : State) (ev : HostEvent) : (s.emit ev).l = s.l := rfl
@[simp] theorem emit_f (s : State) (ev : HostEvent) : (s.emit ev).f = s.f := rfl
@[simp] theorem emit_pc (s : State) (ev : HostEvent) : (s.emit ev).pc = s.pc := rfl
@[simp] theorem emit_sp (s : State) (ev : HostEvent) : (s.emit ev).sp = s.sp := rfl
@[simp] theorem emit_mem (s : State) (ev : HostEvent) : (s.emit ev).mem = s.mem := rfl
@[simp] theorem emit_status (s : State) (ev : HostEvent) : (s.emit ev).status = s.status := rfl
@[simp] theorem emit_paused (s : State) (ev : HostEvent) : (s.emit ev).paused = s.paused := rfl
@[simp] theorem emit_breakpoints (s : State) (ev : HostEvent) : (s.emit ev).breakpoints = s.breakpoints := rfl
@[simp] theorem emit_hostIn (s : State) (ev : HostEvent) : (s.emit ev).hostIn = s.hostIn := rfl
@[simp] theorem emit_events (s : State) (ev : HostEvent) : (s.emit ev).events = s.events ++ [ev] := rfl
@[simp] theorem emit_cfg (s : State) (ev : HostEvent) : (s.emit ev).cfg = s.cfg := rfl

@[simp] theorem takeFault_a (s : State) (r : Fault) : (s.takeFault r).a = s.a := rfl
@[simp] theorem takeFault_b (s : State) (r : Fault) : (s.takeFault r).b = s.b := rfl
@[simp] theorem takeFault_c (s : State) (r : Fault) : (s.takeFault r).c = s.c := rfl
@[simp] theorem takeFault_d (s : State) (r : Fault) : (s.takeFault r).d = s.d := rfl
@[simp] theorem takeFault_e (s : State) (r : Fault) : (s.takeFault r).e = s.e := rfl
@[simp] theorem takeFault_h (s : State) (r : Fault) : (s.takeFault r).h = s.h := rfl
@[simp] theorem takeFault_l (s : State) (r : Fault) : (s.takeFault r).l = s.l := rfl
@[simp] theorem takeFault_f (s : State) (r : Fault) : (s.takeFault r).f = s.f := rfl
@[simp] theorem takeFault_pc (s : State) (r : Fault) : (s.takeFault r).pc = s.pc := rfl
@[simp] theorem takeFault_sp (s : State) (r : Fault) : (s.takeFault r).sp = s.sp := rfl
@[simp] theorem takeFault_mem (s : State) (r : Fault) : (s.takeFault r).mem = s.mem := rfl
@[simp] theorem takeFault_status (s : State) (r : Fault) : (s.takeFault r).status = .faulted r s.pc := rfl
@[simp] theorem takeFault_paused (s : State) (r : Fault) : (s.takeFault r).paused = s.paused := rfl
@[simp] theorem takeFault_breakpoints (s : State) (r : Fault) : (s.takeFault r).breakpoints = s.breakpoints := rfl
@[simp] theorem takeFault_hostIn (s : State) (r : Fault) : (s.takeFault r).hostIn = s.hostIn := rfl
@[simp] theorem takeFault_events (s : State) (r : Fault) : (s.takeFault r).events = s.events := rfl
@[simp] theorem takeFault_cfg (s : State) (r : Fault) : (s.takeFault r).cfg = s.cfg := rfl

@[simp] theorem setFlag_a (s : State) (fl : Flag) (v : Bool) : (s.setFlag fl v).a = s.a := rfl
@[simp] theorem setFlag_b (s : State) (fl : Flag) (v : Bool) : (s.setFlag fl v).b = s.b := rfl
@[simp] theorem setFlag_c (s : State) (fl : Flag) (v : Bool) : (s.setFlag fl v).c = s.c := rfl
@[simp] theorem setFlag_d (s : State) (fl : Flag) (v : Bool) : (s.setFlag fl v).d = s.d := rfl
@[simp] theorem setFlag_e (s : State) (fl : Flag) (v : Bool) : (s.setFlag fl v).e = s.e := rfl
@[simp] theorem setFlag_h (s : State) (fl : Flag) (v : Bool) : (s.setFlag fl v).h = s.h := rfl
@[simp] theorem setFlag_l (s : State) (fl : Flag) (v : Bool) : (s.setFlag fl v).l = s.l := rfl
@[simp] theorem setFlag_f (s : State) (fl : Flag) (v : Bool) : (s.setFlag fl v).f = putFlag s.f fl v := rfl
@[simp] theorem setFlag_pc (s : State) (fl : Flag) (v : Bool) : (s.setFlag fl v).pc = s.pc := rfl
@[simp] theorem setFlag_sp (s : State) (fl : Flag) (v : Bool) : (s.setFlag fl v).sp = s.sp := rfl
@[simp] theorem setFlag_mem (s : State) (fl : Flag) (v : Bool) : (s.setFlag fl v).mem = s.mem := rfl
@[simp] theorem setFlag_status (s : State) (fl : Flag) (v : Bool) : (s.setFlag fl v).status = s.status := rfl
@[simp] theorem setFlag_paused (s : State) (fl : Flag) (v : Bool) : (s.setFlag fl v).paused = s.paused := rfl
@[simp] theorem setFlag_breakpoints (s : State) (fl : Flag) (v : Bool) : (s.setFlag fl v).breakpoints = s.breakpoints := rfl
@[simp] theorem setFlag_hostIn (s : State) (fl : Flag) (v : Bool) : (s.setFlag fl v).hostIn = s.hostIn := rfl
@[simp] theorem setFlag_events (s : State) (fl : Flag) (v : Bool) : (s.setFlag fl v).events = s.events := rfl
@[simp] theorem setFlag_cfg (s : State) (fl : Flag) (v : Bool) : (s.setFlag fl v).cfg = s.cfg := rfl

@[simp] theorem setFlagsKeepCy_a (s : State) (r : AluResult) : (s.setFlagsKeepCy r).a = s.a := rfl
@[simp] theorem setFlagsKeepCy_b (s : State) (r : AluResult) : (s.setFlagsKeepCy r).b = s.b := rfl
@[simp] theorem setFlagsKeepCy_c (s : State) (r : AluResult) : (s.setFlagsKeepCy r).c = s.c := rfl
@[simp] theorem setFlagsKeepCy_d (s : State) (r : AluResult) : (s.setFlagsKeepCy r).d = s.d := rfl
@[simp] theorem setFlagsKeepCy_e (s : State) (r : AluResult) : (s.setFlagsKeepCy r).e = s.e := rfl
@[simp] theorem setFlagsKeepCy_h (s : State) (r : AluResult) : (s.setFlagsKeepCy r).h = s.h := rfl
@[simp] theorem setFlagsKeepCy_l (s : State) (r : AluResult) : (s.setFlagsKeepCy r).l = s.l := rfl
@[simp] theorem setFlagsKeepCy_f (s : State) (r : AluResult) : (s.setFlagsKeepCy r).f = putFlag (putFlag (putFlag (putFlag s.f .s r.s) .z r.z) .ac r.ac) .p r.p := rfl
@[simp] theorem setFlagsKeepCy_pc (s : State) (r : AluResult) : (s.setFlagsKeepCy r).pc = s.pc := rfl
@[simp] theorem setFlagsKeepCy_sp (s : State) (r : AluResult) : (s.setFlagsKeepCy r).sp = s.sp := rfl
@[simp] theorem setFlagsKeepCy_mem (s : State) (r : AluResult) : (s.setFlagsKeepCy r).mem = s.mem := rfl
@[simp] theorem setFlagsKeepCy_status (s : State) (r : AluResult) : (s.setFlagsKeepCy r).status = s.status := rfl
@[simp] theorem setFlagsKeepCy_paused (s : State) (r : AluResult) : (s.setFlagsKeepCy r).paused = s.paused := rfl
@[simp] theorem setFlagsKeepCy_breakpoints (s : State) (r : AluResult) : (s.setFlagsKeepCy r).breakpoints = s.breakpoints := rfl
@[simp] theorem setFlagsKeepCy_hostIn (s : State) (r : AluResult) : (s.setFlagsKeepCy r).hostIn = s.hostIn := rfl
@[simp] theorem setFlagsKeepCy_events (s : State) (r : AluResult) : (s.setFlagsKeepCy r).events = s.events := rfl
@[simp] theorem setFlagsKeepCy_cfg (s : State) (r : AluResult) : (s.setFlagsKeepCy r).cfg = s.cfg := rfl

@[simp] theorem setFlags_a (s : State) (r : AluResult) : (s.setFlags r).a = s.a := rfl
@[simp] theorem setFlags_b (s : State) (r : AluResult) : (s.setFlags r).b = s.b := rfl
@[simp] theorem setFlags_c (s : State) (r : AluResult) : (s.setFlags r).c = s.c := rfl
@[simp] theorem setFlags_d (s : State) (r : AluResult) : (s.setFlags r).d = s.d := rfl
@[simp] theorem setFlags_e (s : State) (r : AluResult) : (s.setFlags r).e = s.e := rfl
@[simp] theorem setFlags_h (s : State) (r : AluResult) : (s.setFlags r).h = s.h := rfl
@[simp] theorem setFlags_l (s : State) (r : AluResult) : (s.setFlags r).l = s.l := rfl
@[simp] theorem setFlags_f (s : State) (r : AluResult) : (s.setFlags r).f = putFlag (putFlag (putFlag (putFlag (putFlag s.f .s r.s) .z r.z) .ac r.ac) .p r.p) .cy r.cy := rfl
@[simp] theorem setFlags_pc (s : State) (r : AluResult) : (s.setFlags r).pc = s.pc := rfl
@[simp] theorem setFlags_sp (s : State) (r : AluResult) : (s.setFlags r).sp = s.sp := rfl
@[simp] theorem setFlags_mem (s : State) (r : AluResult) : (s.setFlags r).mem = s.mem := rfl
@[simp] theorem setFlags_status (s : State) (r : AluResult) : (s.setFlags r).status = s.status := rfl
@[simp] theorem setFlags_paused (s : State) (r : AluResult) : (s.setFlags r).paused = s.paused := rfl
@[simp] theorem setFlags_breakpoints (s : State) (r : AluResult) : (s.setFlags r).breakpoints = s.breakpoints := rfl
@[simp] theorem setFlags_hostIn (s : State) (r : AluResult) : (s.setFlags r).hostIn = s.hostIn := rfl
@[simp] theorem setFlags_events (s : State) (r : AluResult) : (s.setFlags r).events = s.events := rfl
@[simp] theorem setFlags_cfg (s : State) (r : AluResult) : (s.setFlags r).cfg = s.cfg := rfl

@[simp] theorem enterRun_a (s : State) : (s.enterRun).a = s.a := rfl
@[simp] theorem enterRun_b (s : State) : (s.enterRun).b = s.b := rfl
@[simp] theorem enterRun_c (s : State) : (s.enterRun).c = s.c := rfl
@[simp] theorem enterRun_d (s : State) : (s.enterRun).d = s.d := rfl
@[simp] theorem enterRun_e (s : State) : (s.enterRun).e = s.e := rfl
@[simp] theorem enterRun_h (s : State) : (s.enterRun).h = s.h := rfl
@[simp] theorem enterRun_l (s : State) : (s.enterRun).l = s.l := rfl
@[simp] theorem enterRun_f (s : State) : (s.enterRun).f = s.f := rfl
@[simp] theorem enterRun_pc (s : State) : (s.enterRun).pc = s.pc := rfl
@[simp] theorem enterRun_sp (s : State) : (s.enterRun).sp = s.sp := rfl
@[simp] theorem enterRun_mem (s : State) : (s.enterRun).mem = s.mem := rfl
@[simp] theorem enterRun_status (s : State) : (s.enterRun).status = .running := rfl
@[simp] theorem enterRun_paused (s : State) : (s.enterRun).paused = false := rfl
@[simp] theorem enterRun_breakpoints (s : State) : (s.enterRun).breakpoints = s.breakpoints := rfl
@[simp] theorem enterRun_hostIn (s : State) : (s.enterRun).hostIn = s.hostIn := rfl
@[simp] theorem enterRun_events (s : State) : (s.enterRun).events = s.events := rfl
@[simp] theorem enterRun_cfg (s : State) : (s.enterRun).cfg = s.cfg := rfl

@[simp] theorem pause_a (s : State) : (s.pause).a = s.a := rfl
@[simp] theorem pause_b (s : State) : (s.pause).b = s.b := rfl
@[simp] theorem pause_c (s : State) : (s.pause).c = s.c := rfl
@[simp] theorem pause_d (s : State) : (s.pause).d = s.d := rfl
@[simp] theorem pause_e (s : State) : (s.pause).e = s.e := rfl
@[simp] theorem pause_h (s : State) : (s.pause).h = s.h := rfl
@[simp] theorem pause_l (s : State) : (s.pause).l = s.l := rfl
@[simp] theorem pause_f (s : State) : (s.pause).f = s.f := rfl
@[simp] theorem pause_pc (s : State) : (s.pause).pc = s.pc := rfl
@[simp] theorem pause_sp (s : State) : (s.pause).sp = s.sp := rfl
@[simp] theorem pause_mem (s : State) : (s.pause).mem = s.mem := rfl
@[simp] theorem pause_status (s : State) : (s.pause).status = .paused := rfl
@[simp] theorem pause_paused (s : State) : (s.pause).paused = true := rfl
@[simp] theorem pause_breakpoints (s : State) : (s.pause).breakpoints = s.breakpoints := rfl
@[simp] theorem pause_hostIn (s : State) : (s.pause).hostIn = s.hostIn := rfl
@[simp] theorem pause_events (s : State) : (s.pause).events = s.events := rfl
@[simp] theorem pause_cfg (s : State) : (s.pause).cfg = s.cfg := rfl

@[simp] theorem setReg_f (s : State) (r : Reg8) (v : Byte) : (s.setReg r v).f = s.f := by cases r <;> rfl
@[simp] theorem setReg_pc (s : State) (r : Reg8) (v : Byte) : (s.setReg r v).pc = s.pc := by cases r <;> rfl
@[simp] theorem setReg_sp (s : State) (r : Reg8) (v : Byte) : (s.setReg r v).sp = s.sp := by cases r <;> rfl
@[simp] theorem setReg_mem (s : State) (r : Reg8) (v : Byte) : (s.setReg r v).mem = s.mem := by cases r <;> rfl
@[simp] theorem setReg_status (s : State) (r : Reg8) (v : Byte) : (s.setReg r v).status = s.status := by cases r <;> rfl
@[simp] theorem setReg_paused (s : State) (r : Reg8) (v : Byte) : (s.setReg r v).paused = s.paused := by cases r <;> rfl
@[simp] theorem setReg_breakpoints (s : State) (r : Reg8) (v : Byte) : (s.setReg r v).breakpoints = s.breakpoints := by cases r <;> rfl
@[simp] theorem setReg_hostIn (s : State) (r : Reg8) (v : Byte) : (s.setReg r v).hostIn = s.hostIn := by cases r <;> rfl
@[simp] theorem setReg_events (s : State) (r : Reg8) (v : Byte) : (s.setReg r v).events = s.events := by cases r <;> rfl
@[simp] theorem setReg_cfg (s : State) (r : Reg8) (v : Byte) : (s.setReg r v).cfg = s.cfg := by cases r <;> rfl

@[simp] theorem setReg_a_a (s : State) (v : Byte) : (s.setReg .a v).a = v := rfl
@[simp] theorem setReg_a_b (s : State) (v : Byte) : (s.setReg .a v).b = s.b := rfl
@[simp] theorem setReg_a_c (s : State) (v : Byte) : (s.setReg .a v).c = s.c := rfl
@[simp] theorem setReg_a_d (s : State) (v : Byte) : (s.setReg .a v).d = s.d := rfl
@[simp] theorem setReg_a_e (s : State) (v : Byte) : (s.setReg .a v).e = s.e := rfl
@[simp] theorem setReg_a_h (s : State) (v : Byte) : (s.setReg .a v).h = s.h := rfl
@[simp] theorem setReg_a_l (s : State) (v : Byte) : (s.setReg .a v).l = s.l := rfl
@[simp] theorem setReg_b_a (s : State) (v : Byte) : (s.setReg .b v).a = s.a := rfl
@[simp] theorem setReg_b_b (s : State) (v : Byte) : (s.setReg .b v).b = v := rfl
@[simp] theorem setReg_b_c (s : State) (v : Byte) : (s.setReg .b v).c = s.c := rfl
@[simp] theorem setReg_b_d (s : State) (v : Byte) : (s.setReg .b v).d = s.d := rfl
@[simp] theorem setReg_b_e (s : State) (v : Byte) : (s.setReg .b v).e = s.e := rfl
@[simp] theorem setReg_b_h (s : State) (v : Byte) : (s.setReg .b v).h = s.h := rfl
@[simp] theorem setReg_b_l (s : State) (v : Byte) : (s.setReg .b v).l = s.l := rfl
@[simp] theorem setReg_c_a (s : State) (v : Byte) : (s.setReg .c v).a = s.a := rfl
@[simp] theorem setReg_c_b (s : State) (v : Byte) : (s.setReg .c v).b = s.b := rfl
@[simp] theorem setReg_c_c (s : State) (v : Byte) : (s.setReg .c v).c = v := rfl
@[simp] theorem setReg_c_d (s : State) (v : Byte) : (s.setReg .c v).d = s.d := rfl
@[simp] theorem setReg_c_e (s : State) (v : Byte) : (s.setReg .c v).e = s.e := rfl
@[simp] theorem setReg_c_h (s : State) (v : Byte) : (s.setReg .c v).h = s.h := rfl
@[simp] theorem setReg_c_l (s : State) (v : Byte) : (s.setReg .c v).l = s.l := rfl
@[simp] theorem setReg_d_a (s : State) (v : Byte) : (s.setReg .d v).a = s.a := rfl
@[simp] theorem setReg_d_b (s : State) (v : Byte) : (s.setReg .d v).b = s.b := rfl
@[simp] theorem setReg_d_c (s : State) (v : Byte) : (s.setReg .d v).c = s.c := rfl
@[simp] theorem setReg_d_d (s : State) (v : Byte) : (s.setReg .d v).d = v := rfl
@[simp] theorem setReg_d_e (s : State) (v : Byte) : (s.setReg .d v).e = s.e := rfl
@[simp] theorem setReg_d_h (s : State) (v : Byte) : (s.setReg .d v).h = s.h := rfl
@[simp] theorem setReg_d_l (s : State) (v : Byte) : (s.setReg .d v).l = s.l := rfl
@[simp] theorem setReg_e_a (s : State) (v : Byte) : (s.setReg .e v).a = s.a := rfl
@[simp] theorem setReg_e_b (s : State) (v : Byte) : (s.setReg .e v).b = s.b := rfl
@[simp] theorem setReg_e_c (s : State) (v : Byte) : (s.setReg .e v).c = s.c := rfl
@[simp] theorem setReg_e_d (s : State) (v : Byte) : (s.setReg .e v).d = s.d := rfl
@[simp] theorem setReg_e_e (s : State) (v : Byte) : (s.setReg .e v).e = v := rfl
@[simp] theorem setReg_e_h (s : State) (v : Byte) : (s.setReg .e v).h = s.h := rfl
@[simp] theorem setReg_e_l (s : State) (v : Byte) : (s.setReg .e v).l = s.l := rfl
@[simp] theorem setReg_h_a (s : State) (v : Byte) : (s.setReg .h v).a = s.a := rfl
@[simp] theorem setReg_h_b (s : State) (v : Byte) : (s.setReg .h v).b = s.b := rfl
@[simp] theorem setReg_h_c (s : State) (v : Byte) : (s.setReg .h v).c = s.c := rfl
@[simp] theorem setReg_h_d (s : State) (v : Byte) : (s.setReg .h v).d = s.d := rfl
@[simp] theorem setReg_h_e (s : State) (v : Byte) : (s.setReg .h v).e = s.e := rfl
@[simp] theorem setReg_h_h (s : State) (v : Byte) : (s.setReg .h v).h = v := rfl
@[simp] theorem setReg_h_l (s : State) (v : Byte) : (s.setReg .h v).l = s.l := rfl
@[simp] theorem setReg_l_a (s : State) (v : Byte) : (s.setReg .l v).a = s.a := rfl
@[simp] theorem setReg_l_b (s : State) (v : Byte) : (s.setReg .l v).b = s.b := rfl
@[simp] theorem setReg_l_c (s : State) (v : Byte) : (s.setReg .l v).c = s.c := rfl
@[simp] theorem setReg_l_d (s : State) (v : Byte) : (s.setReg .l v).d = s.d := rfl
@[simp] theorem setReg_l_e (s : State) (v : Byte) : (s.setReg .l v).e = s.e := rfl
@[simp] theorem setReg_l_h (s : State) (v : Byte) : (s.setReg .l v).h = s.h := rfl
@[simp] theorem setReg_l_l (s : State) (v : Byte) : (s.setReg .l v).l = v := rfl

/-- A register written reads as written, and every other as before (10_state.md R20). -/
@[simp] theorem reg_setReg (s : State) (r q : Reg8) (v : Byte) :
    (s.setReg r v).reg q = if q = r then v else s.reg q := by
  cases r <;> cases q <;> rfl

@[simp] theorem setPair_f (s : State) (p : Pair) (v : Word) : (s.setPair p v).f = s.f := by cases p <;> rfl
@[simp] theorem setPair_pc (s : State) (p : Pair) (v : Word) : (s.setPair p v).pc = s.pc := by cases p <;> rfl
@[simp] theorem setPair_mem (s : State) (p : Pair) (v : Word) : (s.setPair p v).mem = s.mem := by cases p <;> rfl
@[simp] theorem setPair_status (s : State) (p : Pair) (v : Word) : (s.setPair p v).status = s.status := by cases p <;> rfl
@[simp] theorem setPair_paused (s : State) (p : Pair) (v : Word) : (s.setPair p v).paused = s.paused := by cases p <;> rfl
@[simp] theorem setPair_breakpoints (s : State) (p : Pair) (v : Word) : (s.setPair p v).breakpoints = s.breakpoints := by cases p <;> rfl
@[simp] theorem setPair_hostIn (s : State) (p : Pair) (v : Word) : (s.setPair p v).hostIn = s.hostIn := by cases p <;> rfl
@[simp] theorem setPair_events (s : State) (p : Pair) (v : Word) : (s.setPair p v).events = s.events := by cases p <;> rfl
@[simp] theorem setPair_cfg (s : State) (p : Pair) (v : Word) : (s.setPair p v).cfg = s.cfg := by cases p <;> rfl

@[simp] theorem setPair_bc_a (s : State) (v : Word) : (s.setPair .bc v).a = s.a := rfl
@[simp] theorem setPair_bc_b (s : State) (v : Word) : (s.setPair .bc v).b = hi v := rfl
@[simp] theorem setPair_bc_c (s : State) (v : Word) : (s.setPair .bc v).c = lo v := rfl
@[simp] theorem setPair_bc_d (s : State) (v : Word) : (s.setPair .bc v).d = s.d := rfl
@[simp] theorem setPair_bc_e (s : State) (v : Word) : (s.setPair .bc v).e = s.e := rfl
@[simp] theorem setPair_bc_h (s : State) (v : Word) : (s.setPair .bc v).h = s.h := rfl
@[simp] theorem setPair_bc_l (s : State) (v : Word) : (s.setPair .bc v).l = s.l := rfl
@[simp] theorem setPair_bc_sp (s : State) (v : Word) : (s.setPair .bc v).sp = s.sp := rfl
@[simp] theorem setPair_de_a (s : State) (v : Word) : (s.setPair .de v).a = s.a := rfl
@[simp] theorem setPair_de_b (s : State) (v : Word) : (s.setPair .de v).b = s.b := rfl
@[simp] theorem setPair_de_c (s : State) (v : Word) : (s.setPair .de v).c = s.c := rfl
@[simp] theorem setPair_de_d (s : State) (v : Word) : (s.setPair .de v).d = hi v := rfl
@[simp] theorem setPair_de_e (s : State) (v : Word) : (s.setPair .de v).e = lo v := rfl
@[simp] theorem setPair_de_h (s : State) (v : Word) : (s.setPair .de v).h = s.h := rfl
@[simp] theorem setPair_de_l (s : State) (v : Word) : (s.setPair .de v).l = s.l := rfl
@[simp] theorem setPair_de_sp (s : State) (v : Word) : (s.setPair .de v).sp = s.sp := rfl
@[simp] theorem setPair_hl_a (s : State) (v : Word) : (s.setPair .hl v).a = s.a := rfl
@[simp] theorem setPair_hl_b (s : State) (v : Word) : (s.setPair .hl v).b = s.b := rfl
@[simp] theorem setPair_hl_c (s : State) (v : Word) : (s.setPair .hl v).c = s.c := rfl
@[simp] theorem setPair_hl_d (s : State) (v : Word) : (s.setPair .hl v).d = s.d := rfl
@[simp] theorem setPair_hl_e (s : State) (v : Word) : (s.setPair .hl v).e = s.e := rfl
@[simp] theorem setPair_hl_h (s : State) (v : Word) : (s.setPair .hl v).h = hi v := rfl
@[simp] theorem setPair_hl_l (s : State) (v : Word) : (s.setPair .hl v).l = lo v := rfl
@[simp] theorem setPair_hl_sp (s : State) (v : Word) : (s.setPair .hl v).sp = s.sp := rfl
@[simp] theorem setPair_sp_a (s : State) (v : Word) : (s.setPair .sp v).a = s.a := rfl
@[simp] theorem setPair_sp_b (s : State) (v : Word) : (s.setPair .sp v).b = s.b := rfl
@[simp] theorem setPair_sp_c (s : State) (v : Word) : (s.setPair .sp v).c = s.c := rfl
@[simp] theorem setPair_sp_d (s : State) (v : Word) : (s.setPair .sp v).d = s.d := rfl
@[simp] theorem setPair_sp_e (s : State) (v : Word) : (s.setPair .sp v).e = s.e := rfl
@[simp] theorem setPair_sp_h (s : State) (v : Word) : (s.setPair .sp v).h = s.h := rfl
@[simp] theorem setPair_sp_l (s : State) (v : Word) : (s.setPair .sp v).l = s.l := rfl
@[simp] theorem setPair_sp_sp (s : State) (v : Word) : (s.setPair .sp v).sp = v := rfl

@[simp] theorem setStackPair_pc (s : State) (p : StackPair) (v : Word) : (s.setStackPair p v).pc = s.pc := by cases p <;> rfl
@[simp] theorem setStackPair_sp (s : State) (p : StackPair) (v : Word) : (s.setStackPair p v).sp = s.sp := by cases p <;> rfl
@[simp] theorem setStackPair_mem (s : State) (p : StackPair) (v : Word) : (s.setStackPair p v).mem = s.mem := by cases p <;> rfl
@[simp] theorem setStackPair_status (s : State) (p : StackPair) (v : Word) : (s.setStackPair p v).status = s.status := by cases p <;> rfl
@[simp] theorem setStackPair_paused (s : State) (p : StackPair) (v : Word) : (s.setStackPair p v).paused = s.paused := by cases p <;> rfl
@[simp] theorem setStackPair_breakpoints (s : State) (p : StackPair) (v : Word) : (s.setStackPair p v).breakpoints = s.breakpoints := by cases p <;> rfl
@[simp] theorem setStackPair_hostIn (s : State) (p : StackPair) (v : Word) : (s.setStackPair p v).hostIn = s.hostIn := by cases p <;> rfl
@[simp] theorem setStackPair_events (s : State) (p : StackPair) (v : Word) : (s.setStackPair p v).events = s.events := by cases p <;> rfl
@[simp] theorem setStackPair_cfg (s : State) (p : StackPair) (v : Word) : (s.setStackPair p v).cfg = s.cfg := by cases p <;> rfl

/-- Reading a register looks at the register file only. -/
theorem reg_congr {s t : State} (ha : t.a = s.a) (hb : t.b = s.b) (hc : t.c = s.c) (hd : t.d = s.d)
    (he : t.e = s.e) (hh : t.h = s.h) (hl : t.l = s.l) (r : Reg8) : t.reg r = s.reg r := by
  cases r <;> assumption

@[simp] theorem writeByte_reg (s : State) (addr : Word) (v : Byte) (q : Reg8) : (s.writeByte addr v).reg q = s.reg q := by cases q <;> rfl
@[simp] theorem writeWord_reg (s : State) (addr v : Word) (q : Reg8) : (s.writeWord addr v).reg q = s.reg q := by cases q <;> rfl
@[simp] theorem push16_reg (s : State) (v : Word) (q : Reg8) : (s.push16 v).reg q = s.reg q := by cases q <;> rfl
@[simp] theorem dropWord_reg (s : State)  (q : Reg8) : (s.dropWord).reg q = s.reg q := by cases q <;> rfl
@[simp] theorem emit_reg (s : State) (ev : HostEvent) (q : Reg8) : (s.emit ev).reg q = s.reg q := by cases q <;> rfl
@[simp] theorem setFlag_reg (s : State) (fl : Flag) (v : Bool) (q : Reg8) : (s.setFlag fl v).reg q = s.reg q := by cases q <;> rfl
@[simp] theorem setFlagsKeepCy_reg (s : State) (r : AluResult) (q : Reg8) : (s.setFlagsKeepCy r).reg q = s.reg q := by cases q <;> rfl
@[simp] theorem setFlags_reg (s : State) (r : AluResult) (q : Reg8) : (s.setFlags r).reg q = s.reg q := by cases q <;> rfl
@[simp] theorem enterRun_reg (s : State)  (q : Reg8) : (s.enterRun).reg q = s.reg q := by cases q <;> rfl
@[simp] theorem pause_reg (s : State)  (q : Reg8) : (s.pause).reg q = s.reg q := by cases q <;> rfl
@[simp] theorem takeFault_reg (s : State) (r : Fault) (q : Reg8) : (s.takeFault r).reg q = s.reg q := by cases q <;> rfl

end Sys2Proof.Machine
end

