-- ==== Sys2Proof/Laws/Ops.lean ====
section
/-! SUPPORT. What each shared operation can do, said once: checked accesses, byte order, the stack, the fetch, and the
host's answer. -/
namespace Sys2Proof

/-! ### Byte order -/

@[simp] theorem lo_pair (x y : Byte) : lo (pair x y) = y := by
  apply BitVec.eq_of_getLsbD_eq
  intro i hi'
  simp only [pair, lo, BitVec.getLsbD_append, BitVec.getLsbD_extractLsb']
  simp [hi']

@[simp] theorem hi_pair (x y : Byte) : hi (pair x y) = x := by
  apply BitVec.eq_of_getLsbD_eq
  intro i hi'
  simp only [pair, hi, BitVec.getLsbD_append, BitVec.getLsbD_extractLsb']
  simp [hi']

@[simp] theorem pair_hi_lo (v : Word) : pair (hi v) (lo v) = v := by
  apply BitVec.eq_of_getLsbD_eq
  intro i hi'
  simp only [pair, hi, lo, BitVec.getLsbD_append, BitVec.getLsbD_extractLsb']
  by_cases h : i < 8
  · simp [h]
  · simp [h, show i - 8 < 8 by omega, show 8 + (i - 8) = i by omega]

namespace Machine

/-! ### Checked accesses -/

/-- No address is missing exactly when a byte exists at each. -/
theorem firstMissing_eq_none_iff {s : State} {addrs : List Word} :
    s.firstMissing addrs = none ↔ ∀ w ∈ addrs, s.hasByte w := by
  simp [State.firstMissing, List.find?_eq_none]

/-- The address reported is the first at which no byte exists. -/
theorem firstMissing_eq_some_iff {s : State} {addrs : List Word} {addr : Word} :
    s.firstMissing addrs = some addr ↔ FirstMissingIs s addrs addr := by
  simp only [State.firstMissing, List.find?_eq_some_iff_append, FirstMissingIs, decide_eq_true_eq,
    Bool.not_eq_true', decide_eq_false_iff_not, Nat.not_le, Nat.not_lt]
  constructor
  · rintro ⟨h, pre, post, rfl, hpre⟩
    exact ⟨pre, post, rfl, hpre, h⟩
  · rintro ⟨pre, post, rfl, hpre, h⟩
    exact ⟨h, pre, post, rfl, hpre⟩

/-- An access to bytes that exist has its effect. -/
theorem access_of_hasBytes {s : State} {addrs : List Word} {effect : Result}
    (h : ∀ w ∈ addrs, s.hasByte w) : s.access addrs effect = effect := by
  simp [State.access, firstMissing_eq_none_iff.mpr h]

/-- An access to a missing byte faults on the first one. -/
theorem access_of_missing {s : State} {addrs : List Word} {addr : Word} {effect : Result}
    (h : FirstMissingIs s addrs addr) : s.access addrs effect = .fault (.memoryOutOfRange addr) := by
  simp [State.access, firstMissing_eq_some_iff.mpr h]

/-- All an access can do: its effect, every byte existing, or the fault on the first missing one. -/
theorem access_cases (s : State) (addrs : List Word) (effect : Result) :
    ((∀ w ∈ addrs, s.hasByte w) ∧ s.access addrs effect = effect) ∨
    ∃ addr, FirstMissingIs s addrs addr ∧ s.access addrs effect = .fault (.memoryOutOfRange addr) := by
  cases h : s.firstMissing addrs with
  | none => exact .inl ⟨firstMissing_eq_none_iff.mp h, by simp [State.access, h]⟩
  | some addr => exact .inr ⟨addr, firstMissing_eq_some_iff.mp h, by simp [State.access, h]⟩

/-- When an access answers next, every byte existed and the effect is that next state. -/
theorem access_eq_next {s t : State} {addrs : List Word} {effect : Result}
    (h : s.access addrs effect = .next t) : (∀ w ∈ addrs, s.hasByte w) ∧ effect = .next t := by
  rcases access_cases s addrs effect with ⟨hb, he⟩ | ⟨addr, -, he⟩
  · exact ⟨hb, he ▸ h⟩
  · rw [he] at h; exact absurd h (by simp)

/-! ### Reading after writing -/

@[simp] theorem writeByte_readByte_same {s : State} {addr : Word} {v : Byte} (h : Memory.wf s.mem) :
    (s.writeByte addr v).readByte addr = v := Memory.read_write_same h

theorem writeByte_readByte_of_ne {s : State} {addr other : Word} {v : Byte} (h : other ≠ addr) :
    (s.writeByte addr v).readByte other = s.readByte other :=
  Memory.read_write_of_ne fun he => h (BitVec.eq_of_toNat_eq he)

/-- Two neighbouring addresses differ, the top of memory included. -/
theorem addr_add_one_ne (addr : Word) : addr + 1 ≠ addr := by bv_omega

/-- A word written reads back (20_memory.md R53). -/
theorem writeWord_readWord {s : State} {addr v : Word} (h : Memory.wf s.mem) :
    (s.writeWord addr v).readWord addr = v := by
  have h1 : Memory.wf (s.writeByte addr (lo v)).mem := Memory.wf_write h
  rw [State.readWord, State.writeWord, writeByte_readByte_same h1,
    writeByte_readByte_of_ne (addr_add_one_ne addr).symm, writeByte_readByte_same h, pair_hi_lo]

/-- What Push16 stores is what Pop16 reads (20_memory.md R56, R57). -/
theorem push16_popValue {s : State} {v : Word} (h : Memory.wf s.mem) : (s.push16 v).popValue = v := by
  have h1 : Memory.wf (s.writeByte (s.sp - 1) (hi v)).mem := Memory.wf_write h
  have e1 : s.sp - 2 + 1 = s.sp - 1 := by bv_omega
  have hne : s.sp - 1 ≠ s.sp - 2 := by bv_omega
  show pair (Memory.read _ (s.sp - 2 + 1).toNat) (Memory.read _ (s.sp - 2).toNat) = v
  rw [e1]
  show pair (State.readByte ((s.writeByte (s.sp - 1) (hi v)).writeByte (s.sp - 2) (lo v)) (s.sp - 1))
    (State.readByte ((s.writeByte (s.sp - 1) (hi v)).writeByte (s.sp - 2) (lo v)) (s.sp - 2)) = v
  rw [writeByte_readByte_same h1, writeByte_readByte_of_ne hne, writeByte_readByte_same h, pair_hi_lo]

/-- The two bytes of a word written, and every other byte kept (20_memory.md R52). -/
theorem writeWord_bytes {s : State} {addr v : Word} (h : Memory.wf s.mem) :
    (s.writeWord addr v).readByte addr = lo v ∧ (s.writeWord addr v).readByte (addr + 1) = hi v ∧
    MemKeptOutside [addr, addr + 1] s (s.writeWord addr v) := by
  refine ⟨?_, ?_, fun k hk => ?_⟩
  · rw [State.writeWord, writeByte_readByte_of_ne (addr_add_one_ne addr).symm, writeByte_readByte_same h]
  · rw [State.writeWord]
    exact writeByte_readByte_same (Memory.wf_write h)
  · simp only [writeWord_mem]
    rw [Memory.read_write_of_ne (hk _ (by simp)), Memory.read_write_of_ne (hk _ (by simp))]

/-- The two bytes Push16 stores, and every other byte kept (20_memory.md R56). -/
theorem push16_bytes {s : State} {v : Word} (h : Memory.wf s.mem) :
    (s.push16 v).readByte (s.sp - 1) = hi v ∧ (s.push16 v).readByte (s.sp - 2) = lo v ∧
    MemKeptOutside [s.sp - 1, s.sp - 2] s (s.push16 v) := by
  have hne : s.sp - 1 ≠ s.sp - 2 := by bv_omega
  refine ⟨?_, ?_, fun k hk => ?_⟩
  · show State.readByte ((s.writeByte (s.sp - 1) (hi v)).writeByte (s.sp - 2) (lo v)) (s.sp - 1) = _
    rw [writeByte_readByte_of_ne hne, writeByte_readByte_same h]
  · exact writeByte_readByte_same (s := s.writeByte (s.sp - 1) (hi v)) (Memory.wf_write h)
  · simp only [push16_mem]
    rw [Memory.read_write_of_ne (hk _ (by simp)), Memory.read_write_of_ne (hk _ (by simp))]

/-- The pair PUSH stores, written back, changes no register (10_state.md R23, R24). -/
@[simp] theorem setPair_pairValue (s : State) (p : Pair) : s.setPair p (s.pairValue p) = s := by
  cases p <;> simp [State.setPair, State.pairValue]

@[simp] theorem pairValue_setPair (s : State) (p : Pair) (v : Word) : (s.setPair p v).pairValue p = v := by
  cases p <;> simp [State.setPair, State.pairValue]

@[simp] theorem stackPairValue_setStackPair (s : State) (p : StackPair) (v : Word) :
    (s.setStackPair p v).stackPairValue p = v := by
  cases p <;> simp [State.setStackPair, State.stackPairValue]

/-! ### The host's answer -/

/-- All resumeIn can do: a waiting IN takes the oldest answer, or nothing happens. -/
theorem resumeIn_cases (s : State) :
    (∃ v rest, s.status = .blockedIn ∧ s.hostIn = v :: rest ∧
      s.resumeIn = { s with a := v, hostIn := rest, status := .running }) ∨
    ((s.status ≠ .blockedIn ∨ s.hostIn = []) ∧ s.resumeIn = s) := by
  unfold State.resumeIn
  split
  · next v rest hs hh => exact .inl ⟨v, rest, hs, hh, rfl⟩
  · next hn =>
    refine .inr ⟨?_, rfl⟩
    by_cases hs : s.status = .blockedIn
    · cases hh : s.hostIn with
      | nil => exact .inr rfl
      | cons v rest => exact absurd hh (hn v rest hs)
    · exact .inl hs

/-! ### The fetch -/

/-- A fetch that succeeds: its bytes exist and decode to the instruction (30_encoding.md R85). -/
theorem fetch_eq_ok {s : State} {x : Fetched} (h : s.fetch = .ok x) :
    ∃ fmt rest, s.hasByte s.pc ∧ opFormat (s.readByte s.pc) = some fmt ∧
      (∀ w ∈ operandAddrs s.pc fmt, s.hasByte w) ∧
      decode (s.readByte s.pc :: (operandAddrs s.pc fmt).map s.readByte) = .ok (x.instr, rest) ∧
      x.next = s.pc + BitVec.ofNat 16 fmt.length := by
  unfold State.fetch at h
  split at h
  · exact absurd h (by simp)
  · next h1 =>
    split at h
    · exact absurd h (by simp)
    · next fmt hf =>
      split at h
      · exact absurd h (by simp)
      · next h2 =>
        split at h
        · next i rest hd =>
          refine ⟨fmt, rest, firstMissing_eq_none_iff.mp h1 _ (by simp), hf,
            firstMissing_eq_none_iff.mp h2, ?_, ?_⟩ <;> cases h
          · exact hd
          · rfl
        · exact absurd h (by simp)

/-- A fetch whose bytes exist and decode succeeds (30_encoding.md R85). -/
theorem fetch_of_decode {s : State} {fmt : Format} {i : Instr} {rest : List Byte}
    (hpc : s.hasByte s.pc) (hf : opFormat (s.readByte s.pc) = some fmt)
    (ho : ∀ w ∈ operandAddrs s.pc fmt, s.hasByte w)
    (hd : decode (s.readByte s.pc :: (operandAddrs s.pc fmt).map s.readByte) = .ok (i, rest)) :
    s.fetch = .ok { instr := i, next := s.pc + BitVec.ofNat 16 fmt.length } := by
  have h1 : s.firstMissing [s.pc] = none := firstMissing_eq_none_iff.mpr (by simpa using hpc)
  unfold State.fetch
  simp only [h1, hf, firstMissing_eq_none_iff.mpr ho, hd]

end Machine

end Sys2Proof
end

