-- ==== Sys2Proof/Laws/Families.lean ====
section
/-! SUPPORT. The 246 arms of exec by family: each family's instructions do one shared operation, and every instruction
belongs to a family, so that a proof about all instructions has a case per family and not one per opcode. -/
namespace Sys2Proof.Machine

/-! ### Each family's shared operation -/

theorem exec_movReg (dst : Reg8) (src : Reg8) (s : State) : exec (.movReg dst src) s = moveReg dst src s := by
  cases dst <;> cases src <;> rfl

theorem exec_movFromM (dst : Reg8) (s : State) : exec (.movFromM dst) s = moveFromM dst s := by
  cases dst <;> rfl

theorem exec_movToM (src : Reg8) (s : State) : exec (.movToM src) s = storeByte s.hl (s.reg src) s := by
  cases src <;> rfl

theorem exec_mviReg (dst : Reg8) (d8 : Byte) (s : State) : exec (.mviReg dst d8) s = moveImm dst d8 s := by
  cases dst <;> rfl

theorem exec_lxi (p : Pair) (d16 : Word) (s : State) : exec (.lxi p d16) s = loadPairImm p d16 s := by
  cases p <;> rfl

theorem exec_alu (op : AluOp) (src : Operand8) (s : State) : exec (.alu op src) s = aluOp op src s := by
  cases op <;> rcases src with r | _ | d8 <;> first | rfl | (cases r <;> rfl)

theorem exec_inrReg (r : Reg8) (s : State) : exec (.inrReg r) s = incrementReg r s := by
  cases r <;> rfl

theorem exec_dcrReg (r : Reg8) (s : State) : exec (.dcrReg r) s = decrementReg r s := by
  cases r <;> rfl

theorem exec_inx (p : Pair) (s : State) : exec (.inx p) s = addToPair p 1 s := by
  cases p <;> rfl

theorem exec_dcx (p : Pair) (s : State) : exec (.dcx p) s = addToPair p (-1) s := by
  cases p <;> rfl

theorem exec_dad (p : Pair) (s : State) : exec (.dad p) s = doubleAdd p s := by
  cases p <;> rfl

theorem exec_jcc (k : Cond) (a16 : Word) (s : State) : exec (.jcc k a16) s = whenCond k (jumpTo a16 s) s := by
  cases k <;> rfl

theorem exec_ccc (k : Cond) (a16 : Word) (s : State) : exec (.ccc k a16) s = whenCond k (callTo a16 s) s := by
  cases k <;> rfl

theorem exec_rcc (k : Cond) (s : State) : exec (.rcc k) s = whenCond k (returnFromCall s) s := by
  cases k <;> rfl

theorem exec_rst (n : Fin 8) (s : State) : exec (.rst n) s = callTo (BitVec.ofNat 16 (n.val * 8)) s := by
  fin_cases n <;> rfl

theorem exec_push (p : StackPair) (s : State) : exec (.push p) s = pushPair p s := by
  cases p <;> rfl

theorem exec_pop (p : StackPair) (s : State) : exec (.pop p) s = popPair p s := by
  cases p <;> rfl

theorem exec_mviM (d8 : Byte) (s : State) : exec (.mviM d8) s = storeByte s.hl d8 s := rfl

theorem exec_lda (a16 : Word) (s : State) : exec (.lda a16) s = loadAcc a16 s := rfl

theorem exec_sta (a16 : Word) (s : State) : exec (.sta a16) s = storeByte a16 s.a s := rfl

theorem exec_lhld (a16 : Word) (s : State) : exec (.lhld a16) s = loadHL a16 s := rfl

theorem exec_shld (a16 : Word) (s : State) : exec (.shld a16) s = storeHL a16 s := rfl

theorem exec_ldaxB (s : State) : exec .ldaxB s = loadAcc (s.pairValue .bc) s := rfl

theorem exec_ldaxD (s : State) : exec .ldaxD s = loadAcc (s.pairValue .de) s := rfl

theorem exec_staxB (s : State) : exec .staxB s = storeByte (s.pairValue .bc) s.a s := rfl

theorem exec_staxD (s : State) : exec .staxD s = storeByte (s.pairValue .de) s.a s := rfl

theorem exec_xchg (s : State) : exec .xchg s = exchangeDEHL s := rfl

theorem exec_inrM (s : State) : exec .inrM s = incrementM s := rfl

theorem exec_dcrM (s : State) : exec .dcrM s = decrementM s := rfl

theorem exec_daa (s : State) : exec .daa s = decimalAdjust s := rfl

theorem exec_rlc (s : State) : exec .rlc s = rotateAcc (rlc8 s.a) s := rfl

theorem exec_rrc (s : State) : exec .rrc s = rotateAcc (rrc8 s.a) s := rfl

theorem exec_ral (s : State) : exec .ral s = rotateAcc (ral8 s.a (s.flag .cy)) s := rfl

theorem exec_rar (s : State) : exec .rar s = rotateAcc (rar8 s.a (s.flag .cy)) s := rfl

theorem exec_cma (s : State) : exec .cma s = complementAcc s := rfl

theorem exec_cmc (s : State) : exec .cmc s = setCarry (!s.flag .cy) s := rfl

theorem exec_stc (s : State) : exec .stc s = setCarry true s := rfl

theorem exec_jmp (a16 : Word) (s : State) : exec (.jmp a16) s = jumpTo a16 s := rfl

theorem exec_call (a16 : Word) (s : State) : exec (.call a16) s = callTo a16 s := rfl

theorem exec_ret (s : State) : exec .ret s = returnFromCall s := rfl

theorem exec_pchl (s : State) : exec .pchl s = jumpTo s.hl s := rfl

theorem exec_xthl (s : State) : exec .xthl s = exchangeTop s := rfl

theorem exec_sphl (s : State) : exec .sphl s = loadSpFromHL s := rfl

theorem exec_inPort (port : Byte) (s : State) : exec (.inPort port) s = inputByte port s := rfl

theorem exec_outPort (port : Byte) (s : State) : exec (.outPort port) s = outputByte port s := rfl

theorem exec_ei (s : State) : exec .ei s = unimplemented 0xFB s := rfl

theorem exec_di (s : State) : exec .di s = unimplemented 0xF3 s := rfl

theorem exec_rim (s : State) : exec .rim s = unimplemented 0x20 s := rfl

theorem exec_sim (s : State) : exec .sim s = unimplemented 0x30 s := rfl

theorem exec_hlt (s : State) : exec .hlt s = halt s := rfl

theorem exec_nop (s : State) : exec .nop s = noOperation s := rfl

/-! ### Every instruction belongs to a family -/

/-- To prove something of every instruction, prove it of every family. -/
theorem Instr.byFamily {P : Instr → Prop}
    (movReg : ∀ dst src, P (.movReg dst src))
    (movFromM : ∀ dst, P (.movFromM dst))
    (movToM : ∀ src, P (.movToM src))
    (mviReg : ∀ dst d8, P (.mviReg dst d8))
    (lxi : ∀ p d16, P (.lxi p d16))
    (alu : ∀ op src, P (.alu op src))
    (inrReg : ∀ r, P (.inrReg r))
    (dcrReg : ∀ r, P (.dcrReg r))
    (inx : ∀ p, P (.inx p))
    (dcx : ∀ p, P (.dcx p))
    (dad : ∀ p, P (.dad p))
    (jcc : ∀ k a16, P (.jcc k a16))
    (ccc : ∀ k a16, P (.ccc k a16))
    (rcc : ∀ k, P (.rcc k))
    (rst : ∀ n, P (.rst n))
    (push : ∀ p, P (.push p))
    (pop : ∀ p, P (.pop p))
    (mviM : ∀ d8, P (.mviM d8))
    (lda : ∀ a16, P (.lda a16))
    (sta : ∀ a16, P (.sta a16))
    (lhld : ∀ a16, P (.lhld a16))
    (shld : ∀ a16, P (.shld a16))
    (ldaxB : P .ldaxB)
    (ldaxD : P .ldaxD)
    (staxB : P .staxB)
    (staxD : P .staxD)
    (xchg : P .xchg)
    (inrM : P .inrM)
    (dcrM : P .dcrM)
    (daa : P .daa)
    (rlc : P .rlc)
    (rrc : P .rrc)
    (ral : P .ral)
    (rar : P .rar)
    (cma : P .cma)
    (cmc : P .cmc)
    (stc : P .stc)
    (jmp : ∀ a16, P (.jmp a16))
    (call : ∀ a16, P (.call a16))
    (ret : P .ret)
    (pchl : P .pchl)
    (xthl : P .xthl)
    (sphl : P .sphl)
    (inPort : ∀ port, P (.inPort port))
    (outPort : ∀ port, P (.outPort port))
    (ei : P .ei)
    (di : P .di)
    (rim : P .rim)
    (sim : P .sim)
    (hlt : P .hlt)
    (nop : P .nop)
    (i : Instr) : P i := by
  cases i with
  | lxiB w => exact lxi .bc w
  | mviB w => exact mviReg .b w
  | mviC w => exact mviReg .c w
  | lxiD w => exact lxi .de w
  | mviD w => exact mviReg .d w
  | mviE w => exact mviReg .e w
  | lxiH w => exact lxi .hl w
  | shld w => exact shld w
  | mviH w => exact mviReg .h w
  | lhld w => exact lhld w
  | mviL w => exact mviReg .l w
  | lxiSp w => exact lxi .sp w
  | sta w => exact sta w
  | mviM w => exact mviM w
  | lda w => exact lda w
  | mviA w => exact mviReg .a w
  | jnz w => exact jcc .nz w
  | jmp w => exact jmp w
  | cnz w => exact ccc .nz w
  | adi w => exact alu .add (.imm w)
  | jz w => exact jcc .z w
  | cz w => exact ccc .z w
  | call w => exact call w
  | aci w => exact alu .adc (.imm w)
  | jnc w => exact jcc .nc w
  | outPort w => exact outPort w
  | cnc w => exact ccc .nc w
  | sui w => exact alu .sub (.imm w)
  | jc w => exact jcc .c w
  | inPort w => exact inPort w
  | cc w => exact ccc .c w
  | sbi w => exact alu .sbb (.imm w)
  | jpo w => exact jcc .po w
  | cpo w => exact ccc .po w
  | ani w => exact alu .ana (.imm w)
  | jpe w => exact jcc .pe w
  | cpe w => exact ccc .pe w
  | xri w => exact alu .xra (.imm w)
  | jp w => exact jcc .p w
  | cp w => exact ccc .p w
  | ori w => exact alu .ora (.imm w)
  | jm w => exact jcc .m w
  | cm w => exact ccc .m w
  | cpi w => exact alu .cmp (.imm w)
  | nop => exact nop
  | staxB => exact staxB
  | inxB => exact inx .bc
  | inrB => exact inrReg .b
  | dcrB => exact dcrReg .b
  | rlc => exact rlc
  | dadB => exact dad .bc
  | ldaxB => exact ldaxB
  | dcxB => exact dcx .bc
  | inrC => exact inrReg .c
  | dcrC => exact dcrReg .c
  | rrc => exact rrc
  | staxD => exact staxD
  | inxD => exact inx .de
  | inrD => exact inrReg .d
  | dcrD => exact dcrReg .d
  | ral => exact ral
  | dadD => exact dad .de
  | ldaxD => exact ldaxD
  | dcxD => exact dcx .de
  | inrE => exact inrReg .e
  | dcrE => exact dcrReg .e
  | rar => exact rar
  | rim => exact rim
  | inxH => exact inx .hl
  | inrH => exact inrReg .h
  | dcrH => exact dcrReg .h
  | daa => exact daa
  | dadH => exact dad .hl
  | dcxH => exact dcx .hl
  | inrL => exact inrReg .l
  | dcrL => exact dcrReg .l
  | cma => exact cma
  | sim => exact sim
  | inxSp => exact inx .sp
  | inrM => exact inrM
  | dcrM => exact dcrM
  | stc => exact stc
  | dadSp => exact dad .sp
  | dcxSp => exact dcx .sp
  | inrA => exact inrReg .a
  | dcrA => exact dcrReg .a
  | cmc => exact cmc
  | movBB => exact movReg .b .b
  | movBC => exact movReg .b .c
  | movBD => exact movReg .b .d
  | movBE => exact movReg .b .e
  | movBH => exact movReg .b .h
  | movBL => exact movReg .b .l
  | movBM => exact movFromM .b
  | movBA => exact movReg .b .a
  | movCB => exact movReg .c .b
  | movCC => exact movReg .c .c
  | movCD => exact movReg .c .d
  | movCE => exact movReg .c .e
  | movCH => exact movReg .c .h
  | movCL => exact movReg .c .l
  | movCM => exact movFromM .c
  | movCA => exact movReg .c .a
  | movDB => exact movReg .d .b
  | movDC => exact movReg .d .c
  | movDD => exact movReg .d .d
  | movDE => exact movReg .d .e
  | movDH => exact movReg .d .h
  | movDL => exact movReg .d .l
  | movDM => exact movFromM .d
  | movDA => exact movReg .d .a
  | movEB => exact movReg .e .b
  | movEC => exact movReg .e .c
  | movED => exact movReg .e .d
  | movEE => exact movReg .e .e
  | movEH => exact movReg .e .h
  | movEL => exact movReg .e .l
  | movEM => exact movFromM .e
  | movEA => exact movReg .e .a
  | movHB => exact movReg .h .b
  | movHC => exact movReg .h .c
  | movHD => exact movReg .h .d
  | movHE => exact movReg .h .e
  | movHH => exact movReg .h .h
  | movHL => exact movReg .h .l
  | movHM => exact movFromM .h
  | movHA => exact movReg .h .a
  | movLB => exact movReg .l .b
  | movLC => exact movReg .l .c
  | movLD => exact movReg .l .d
  | movLE => exact movReg .l .e
  | movLH => exact movReg .l .h
  | movLL => exact movReg .l .l
  | movLM => exact movFromM .l
  | movLA => exact movReg .l .a
  | movMB => exact movToM .b
  | movMC => exact movToM .c
  | movMD => exact movToM .d
  | movME => exact movToM .e
  | movMH => exact movToM .h
  | movML => exact movToM .l
  | hlt => exact hlt
  | movMA => exact movToM .a
  | movAB => exact movReg .a .b
  | movAC => exact movReg .a .c
  | movAD => exact movReg .a .d
  | movAE => exact movReg .a .e
  | movAH => exact movReg .a .h
  | movAL => exact movReg .a .l
  | movAM => exact movFromM .a
  | movAA => exact movReg .a .a
  | addB => exact alu .add (.reg .b)
  | addC => exact alu .add (.reg .c)
  | addD => exact alu .add (.reg .d)
  | addE => exact alu .add (.reg .e)
  | addH => exact alu .add (.reg .h)
  | addL => exact alu .add (.reg .l)
  | addM => exact alu .add .mem
  | addA => exact alu .add (.reg .a)
  | adcB => exact alu .adc (.reg .b)
  | adcC => exact alu .adc (.reg .c)
  | adcD => exact alu .adc (.reg .d)
  | adcE => exact alu .adc (.reg .e)
  | adcH => exact alu .adc (.reg .h)
  | adcL => exact alu .adc (.reg .l)
  | adcM => exact alu .adc .mem
  | adcA => exact alu .adc (.reg .a)
  | subB => exact alu .sub (.reg .b)
  | subC => exact alu .sub (.reg .c)
  | subD => exact alu .sub (.reg .d)
  | subE => exact alu .sub (.reg .e)
  | subH => exact alu .sub (.reg .h)
  | subL => exact alu .sub (.reg .l)
  | subM => exact alu .sub .mem
  | subA => exact alu .sub (.reg .a)
  | sbbB => exact alu .sbb (.reg .b)
  | sbbC => exact alu .sbb (.reg .c)
  | sbbD => exact alu .sbb (.reg .d)
  | sbbE => exact alu .sbb (.reg .e)
  | sbbH => exact alu .sbb (.reg .h)
  | sbbL => exact alu .sbb (.reg .l)
  | sbbM => exact alu .sbb .mem
  | sbbA => exact alu .sbb (.reg .a)
  | anaB => exact alu .ana (.reg .b)
  | anaC => exact alu .ana (.reg .c)
  | anaD => exact alu .ana (.reg .d)
  | anaE => exact alu .ana (.reg .e)
  | anaH => exact alu .ana (.reg .h)
  | anaL => exact alu .ana (.reg .l)
  | anaM => exact alu .ana .mem
  | anaA => exact alu .ana (.reg .a)
  | xraB => exact alu .xra (.reg .b)
  | xraC => exact alu .xra (.reg .c)
  | xraD => exact alu .xra (.reg .d)
  | xraE => exact alu .xra (.reg .e)
  | xraH => exact alu .xra (.reg .h)
  | xraL => exact alu .xra (.reg .l)
  | xraM => exact alu .xra .mem
  | xraA => exact alu .xra (.reg .a)
  | oraB => exact alu .ora (.reg .b)
  | oraC => exact alu .ora (.reg .c)
  | oraD => exact alu .ora (.reg .d)
  | oraE => exact alu .ora (.reg .e)
  | oraH => exact alu .ora (.reg .h)
  | oraL => exact alu .ora (.reg .l)
  | oraM => exact alu .ora .mem
  | oraA => exact alu .ora (.reg .a)
  | cmpB => exact alu .cmp (.reg .b)
  | cmpC => exact alu .cmp (.reg .c)
  | cmpD => exact alu .cmp (.reg .d)
  | cmpE => exact alu .cmp (.reg .e)
  | cmpH => exact alu .cmp (.reg .h)
  | cmpL => exact alu .cmp (.reg .l)
  | cmpM => exact alu .cmp .mem
  | cmpA => exact alu .cmp (.reg .a)
  | rnz => exact rcc .nz
  | popB => exact pop .bc
  | pushB => exact push .bc
  | rst0 => exact rst 0
  | rz => exact rcc .z
  | ret => exact ret
  | rst1 => exact rst 1
  | rnc => exact rcc .nc
  | popD => exact pop .de
  | pushD => exact push .de
  | rst2 => exact rst 2
  | rc => exact rcc .c
  | rst3 => exact rst 3
  | rpo => exact rcc .po
  | popH => exact pop .hl
  | xthl => exact xthl
  | pushH => exact push .hl
  | rst4 => exact rst 4
  | rpe => exact rcc .pe
  | pchl => exact pchl
  | xchg => exact xchg
  | rst5 => exact rst 5
  | rp => exact rcc .p
  | popPsw => exact pop .psw
  | di => exact di
  | pushPsw => exact push .psw
  | rst6 => exact rst 6
  | rm => exact rcc .m
  | sphl => exact sphl
  | ei => exact ei
  | rst7 => exact rst 7

/-! ### The next states of exec -/

/-- An access to a next state answers it exactly when every byte exists. -/
theorem access_next_iff {s t u : State} {as : List Word} :
    s.access as (.next u) = .next t ↔ (∀ w ∈ as, s.hasByte w) ∧ u = t := by
  constructor
  · intro h; have := access_eq_next h; exact ⟨this.1, by simpa using this.2⟩
  · rintro ⟨h, rfl⟩; exact access_of_hasBytes h

/-- Everything exec can answer next with: to prove something of an instruction, its state and the next state, prove
it for each family's next state. A conditional transfer has two cases, taken and not taken, and IN has two, waiting
and answered. Proofs cite this rather than unfold the meanings. -/
theorem exec_next_induction (Q : Instr → State → State → Prop) (s : State)
    (movReg : ∀ dst src, Q (.movReg dst src) s (s.setReg dst (s.reg src)))
    (movFromM : ∀ dst, Q (.movFromM dst) s (s.setReg dst (s.readByte s.hl)))
    (movToM : ∀ src, Q (.movToM src) s (s.writeByte s.hl (s.reg src)))
    (mviReg : ∀ dst d8, Q (.mviReg dst d8) s (s.setReg dst d8))
    (lxi : ∀ p d16, Q (.lxi p d16) s (s.setPair p d16))
    (alu : ∀ op src, Q (.alu op src) s
      ((if op = .cmp then s else s.setReg .a (aluResult op s.a (s.operandValue src) (s.flag .cy)).res).setFlags
        (aluResult op s.a (s.operandValue src) (s.flag .cy))))
    (inrReg : ∀ r, Q (.inrReg r) s ((s.setReg r (add8 (s.reg r) 1 false).res).setFlagsKeepCy (add8 (s.reg r) 1 false)))
    (dcrReg : ∀ r, Q (.dcrReg r) s ((s.setReg r (sub8 (s.reg r) 1 false).res).setFlagsKeepCy (sub8 (s.reg r) 1 false)))
    (inx : ∀ p, Q (.inx p) s (s.setPair p (s.pairValue p + 1)))
    (dcx : ∀ p, Q (.dcx p) s (s.setPair p (s.pairValue p + -1)))
    (dad : ∀ p, Q (.dad p) s
      ((s.setPair .hl (BitVec.ofNat 16 (s.hl.toNat + (s.pairValue p).toNat))).setFlag .cy
        (decide (s.hl.toNat + (s.pairValue p).toNat > 0xFFFF))))
    (jcc : ∀ k a16, s.cond k = true → Q (.jcc k a16) s { s with pc := a16 })
    (ccc : ∀ k a16, s.cond k = true → Q (.ccc k a16) s { s.push16 s.pc with pc := a16 })
    (rcc : ∀ k, s.cond k = true → Q (.rcc k) s { s.dropWord with pc := s.popValue })
    (njcc : ∀ k a16, s.cond k = false → Q (.jcc k a16) s s)
    (nccc : ∀ k a16, s.cond k = false → Q (.ccc k a16) s s)
    (nrcc : ∀ k, s.cond k = false → Q (.rcc k) s s)
    (rst : ∀ n, Q (.rst n) s { s.push16 s.pc with pc := BitVec.ofNat 16 (n.val * 8) })
    (push : ∀ p, Q (.push p) s (s.push16 (s.stackPairValue p)))
    (pop : ∀ p, Q (.pop p) s (s.dropWord.setStackPair p s.popValue))
    (mviM : ∀ d8, Q (.mviM d8) s (s.writeByte s.hl d8))
    (lda : ∀ a16, Q (.lda a16) s (s.setReg .a (s.readByte a16)))
    (sta : ∀ a16, Q (.sta a16) s (s.writeByte a16 s.a))
    (lhld : ∀ a16, Q (.lhld a16) s (s.setPair .hl (s.readWord a16)))
    (shld : ∀ a16, Q (.shld a16) s (s.writeWord a16 s.hl))
    (ldaxB : Q .ldaxB s (s.setReg .a (s.readByte (s.pairValue .bc))))
    (ldaxD : Q .ldaxD s (s.setReg .a (s.readByte (s.pairValue .de))))
    (staxB : Q .staxB s (s.writeByte (s.pairValue .bc) s.a))
    (staxD : Q .staxD s (s.writeByte (s.pairValue .de) s.a))
    (xchg : Q .xchg s ((s.setPair .hl (s.pairValue .de)).setPair .de s.hl))
    (inrM : Q .inrM s ((s.writeByte s.hl (add8 (s.readByte s.hl) 1 false).res).setFlagsKeepCy (add8 (s.readByte s.hl) 1 false)))
    (dcrM : Q .dcrM s ((s.writeByte s.hl (sub8 (s.readByte s.hl) 1 false).res).setFlagsKeepCy (sub8 (s.readByte s.hl) 1 false)))
    (daa : Q .daa s ((s.setReg .a (daa8 s.a (s.flag .ac) (s.flag .cy)).res).setFlags (daa8 s.a (s.flag .ac) (s.flag .cy))))
    (rlc : Q .rlc s ((s.setReg .a (rlc8 s.a).1).setFlag .cy (rlc8 s.a).2))
    (rrc : Q .rrc s ((s.setReg .a (rrc8 s.a).1).setFlag .cy (rrc8 s.a).2))
    (ral : Q .ral s ((s.setReg .a (ral8 s.a (s.flag .cy)).1).setFlag .cy (ral8 s.a (s.flag .cy)).2))
    (rar : Q .rar s ((s.setReg .a (rar8 s.a (s.flag .cy)).1).setFlag .cy (rar8 s.a (s.flag .cy)).2))
    (cma : Q .cma s (s.setReg .a (~~~s.a)))
    (cmc : Q .cmc s (s.setFlag .cy (!s.flag .cy)))
    (stc : Q .stc s (s.setFlag .cy true))
    (jmp : ∀ a16, Q (.jmp a16) s { s with pc := a16 })
    (call : ∀ a16, Q (.call a16) s { s.push16 s.pc with pc := a16 })
    (ret : Q .ret s { s.dropWord with pc := s.popValue })
    (pchl : Q .pchl s { s with pc := s.hl })
    (xthl : Q .xthl s ((s.writeWord s.sp s.hl).setPair .hl s.popValue))
    (sphl : Q .sphl s (s.setPair .sp s.hl))
    (inWait : ∀ port, s.hostIn = [] → Q (.inPort port) s { s.emit (.inHook port) with status := .blockedIn })
    (inTake : ∀ port v rest, s.hostIn = v :: rest → Q (.inPort port) s { s.emit (.inHook port) with a := v, hostIn := rest, status := .running })
    (outPort : ∀ port, Q (.outPort port) s (s.emit (.outHook port s.a)))
    (ei : Q .ei s (s.emit (.diagnostic 0xFB))) (di : Q .di s (s.emit (.diagnostic 0xF3)))
    (rim : Q .rim s (s.emit (.diagnostic 0x20))) (sim : Q .sim s (s.emit (.diagnostic 0x30)))
    (hlt : Q .hlt s { s with status := .halted }) (nop : Q .nop s s)
    (i : Instr) (t : State) (h : exec i s = .next t) : Q i s t := by
  revert i
  apply Instr.byFamily
  case alu => intro op src h; simp only [exec_alu, aluOp, access_next_iff] at h; rw [← h.2]; exact alu _ _
  case jcc =>
    intro k a h; simp only [exec_jcc, whenCond, jumpTo] at h; split at h
    · next hc => cases h; exact jcc k a hc
    · next hc => cases h; exact njcc k a (by simpa using hc)
  case ccc =>
    intro k a h; simp only [exec_ccc, whenCond, callTo] at h; split at h
    · next hc => rw [access_next_iff] at h; rw [← h.2]; exact ccc k a hc
    · next hc => cases h; exact nccc _ _ (by simpa using hc)
  case rcc =>
    intro k h; simp only [exec_rcc, whenCond, returnFromCall] at h; split at h
    · next hc => rw [access_next_iff] at h; rw [← h.2]; exact rcc k hc
    · next hc => cases h; exact nrcc _ (by simpa using hc)
  case inPort =>
    intro port h; simp only [exec_inPort, inputByte, Host.Outcome.next.injEq] at h; rw [← h]
    cases hh : s.hostIn with
    | nil => simpa [State.resumeIn, hh] using inWait port hh
    | cons v rest => simpa [State.resumeIn, hh] using inTake port v rest hh
  all_goals
    intros
    rename_i h
    first
    | simp only [exec_movReg, exec_mviReg, exec_lxi, exec_inrReg, exec_dcrReg, exec_inx, exec_dcx, exec_dad, exec_xchg,
        exec_daa, exec_rlc, exec_rrc, exec_ral, exec_rar, exec_cma, exec_cmc, exec_stc, exec_jmp, exec_pchl,
        exec_sphl, exec_outPort, exec_ei, exec_di, exec_rim, exec_sim, exec_hlt, exec_nop, moveReg, moveImm,
        loadPairImm, incrementReg, decrementReg, addToPair, doubleAdd, exchangeDEHL, decimalAdjust, rotateAcc,
        complementAcc, setCarry, jumpTo, loadSpFromHL, outputByte, unimplemented, halt, noOperation,
        Host.Outcome.next.injEq] at h
      rw [← h]; apply_assumption
    | simp only [exec_movFromM, exec_movToM, exec_rst, exec_push, exec_pop, exec_mviM, exec_lda, exec_sta, exec_lhld,
        exec_shld, exec_ldaxB, exec_ldaxD, exec_staxB, exec_staxD, exec_inrM, exec_dcrM, exec_call, exec_ret,
        exec_xthl, moveFromM, storeByte, loadAcc, loadHL, storeHL, incrementM, decrementM, callTo, returnFromCall,
        pushPair, popPair, exchangeTop, access_next_iff] at h
      rw [← h.2]; apply_assumption

/-- All exec can answer: a next state, or the fault of a data address at which no byte exists. Nothing is refused. -/
theorem exec_cases (i : Instr) (s : State) :
    (∃ t, exec i s = .next t) ∨ ∃ addr, exec i s = .fault (.memoryOutOfRange addr) ∧ ¬ s.hasByte addr := by
  have acc : ∀ as u, (∃ t, s.access as (.next u) = .next t) ∨
      ∃ addr, s.access as (.next u) = .fault (.memoryOutOfRange addr) ∧ ¬ s.hasByte addr := fun as u => by
    rcases access_cases s as (.next u) with ⟨-, h⟩ | ⟨addr, ⟨_, _, _, _, hn⟩, h⟩
    · exact .inl ⟨_, h⟩
    · exact .inr ⟨addr, h, hn⟩
  have cond : ∀ k o, ((∃ t, o = .next t) ∨ ∃ addr, o = .fault (.memoryOutOfRange addr) ∧ ¬ s.hasByte addr) →
      (∃ t, whenCond k o s = .next t) ∨
      ∃ addr, whenCond k o s = .fault (.memoryOutOfRange addr) ∧ ¬ s.hasByte addr := fun k o h => by
    unfold whenCond
    split
    · exact h
    · exact .inl ⟨_, rfl⟩
  revert i
  apply Instr.byFamily
  case alu => intro op src; rw [exec_alu]; exact acc _ _
  case movReg => intros; rw [exec_movReg]; exact .inl ⟨_, rfl⟩
  case mviReg => intros; rw [exec_mviReg]; exact .inl ⟨_, rfl⟩
  case lxi => intros; rw [exec_lxi]; exact .inl ⟨_, rfl⟩
  case inrReg => intros; rw [exec_inrReg]; exact .inl ⟨_, rfl⟩
  case dcrReg => intros; rw [exec_dcrReg]; exact .inl ⟨_, rfl⟩
  case inx => intros; rw [exec_inx]; exact .inl ⟨_, rfl⟩
  case dcx => intros; rw [exec_dcx]; exact .inl ⟨_, rfl⟩
  case dad => intros; rw [exec_dad]; exact .inl ⟨_, rfl⟩
  case jcc => intros; rw [exec_jcc]; exact cond _ _ (.inl ⟨_, rfl⟩)
  case ccc => intros; rw [exec_ccc]; exact cond _ _ (acc _ _)
  case rcc => intros; rw [exec_rcc]; exact cond _ _ (acc _ _)
  case rst => intros; rw [exec_rst]; exact acc _ _
  case push => intros; rw [exec_push]; exact acc _ _
  case pop => intros; rw [exec_pop]; exact acc _ _
  case movFromM => intros; rw [exec_movFromM]; exact acc _ _
  case movToM => intros; rw [exec_movToM]; exact acc _ _
  all_goals
    intros
    first
    | exact .inl ⟨_, rfl⟩
    | exact acc _ _

end Sys2Proof.Machine
end

