-- ==== Sys2Proof/Laws/Flags.lean ====
section
/-! SUPPORT. The laws of F: a flag written reads as written and every other bit is kept; and the helpers of
41_arithmetic.md in terms of exact sums. -/
namespace Sys2Proof.Machine

/-- A flag is one bit of F. -/
theorem flagBit_lt (fl : Flag) : flagBit fl < 8 := by cases fl <;> decide

/-- Every bit of a flags byte after one flag is written (10_state.md R25, R26). -/
theorem putFlag_getLsbD (f : Byte) (fl : Flag) (v : Bool) (k : Nat) :
    (putFlag f fl v).getLsbD k = if k = flagBit fl then v else f.getLsbD k := by
  have hb := flagBit_lt fl
  have hbit : (BitVec.ofNat 8 (2 ^ flagBit fl)).getLsbD k = decide (k = flagBit fl) := by
    rw [BitVec.getLsbD_ofNat, Nat.testBit_two_pow]
    by_cases h : flagBit fl = k
    · simp [← h, hb]
    · simp [h, Ne.symm h]
  cases v <;> simp only [putFlag, BitVec.getLsbD_or, BitVec.getLsbD_and, BitVec.getLsbD_not, hbit,
    if_true, Bool.false_eq_true, if_false]
  · by_cases h : k = flagBit fl
    · simp [h]
    · by_cases h8 : k < 8
      · simp [h, h8]
      · simp [h, BitVec.getLsbD_of_ge f k (by omega)]
  · by_cases h : k = flagBit fl <;> simp [h]

@[simp] theorem getFlag_putFlag (f : Byte) (fl gl : Flag) (v : Bool) :
    getFlag (putFlag f fl v) gl = if gl = fl then v else getFlag f gl := by
  simp only [getFlag, putFlag_getLsbD]
  cases fl <;> cases gl <;> simp [flagBit]

@[simp] theorem flag_setFlag (s : State) (fl gl : Flag) (v : Bool) :
    (s.setFlag fl v).flag gl = if gl = fl then v else s.flag gl := getFlag_putFlag _ _ _ _

@[simp] theorem flag_setReg (s : State) (r : Reg8) (v : Byte) (gl : Flag) :
    (s.setReg r v).flag gl = s.flag gl := by simp [State.flag]

/-- The five flags after a helper's flags are written (41_arithmetic.md R122). -/
theorem flag_setFlags (s : State) (r : AluResult) :
    (s.setFlags r).flag .s = r.s ∧ (s.setFlags r).flag .z = r.z ∧ (s.setFlags r).flag .ac = r.ac ∧
    (s.setFlags r).flag .p = r.p ∧ (s.setFlags r).flag .cy = r.cy := by
  simp [State.flag]

/-- The flags after INR and DCR: CY is kept (41_arithmetic.md R135 to R138). -/
theorem flag_setFlagsKeepCy (s : State) (r : AluResult) :
    (s.setFlagsKeepCy r).flag .s = r.s ∧ (s.setFlagsKeepCy r).flag .z = r.z ∧
    (s.setFlagsKeepCy r).flag .ac = r.ac ∧ (s.setFlagsKeepCy r).flag .p = r.p ∧
    (s.setFlagsKeepCy r).flag .cy = s.flag .cy := by
  simp [State.flag]

/-- Parity by counting is parity by sum modulo 2 (10_state.md R30). -/
theorem parityEven_eq_evenOnes : ∀ v : Byte, parityEven v = evenOnes v := by decide

/-- Writing one flag keeps every bit of F but that flag's. -/
theorem setFlag_bits (s : State) (fl : Flag) (v : Bool) : FlagBitsKeptExcept [fl] s (s.setFlag fl v) := by
  intro k hk
  simp only [List.map_cons, List.map_nil, List.mem_singleton] at hk
  simp [putFlag_getLsbD, hk]

/-- Writing the flags of INR and DCR keeps CY and bits 5, 3 and 1. -/
theorem setFlagsKeepCy_bits (s : State) (r : AluResult) :
    FlagBitsKeptExcept [.s, .z, .ac, .p] s (s.setFlagsKeepCy r) := by
  intro k hk
  simp only [List.map_cons, List.map_nil, List.mem_cons, List.not_mem_nil, or_false, not_or] at hk
  simp [putFlag_getLsbD, hk]

/-- Writing all five flags keeps bits 5, 3 and 1 (10_state.md R26). -/
theorem setFlags_bits (s : State) (r : AluResult) :
    FlagBitsKeptExcept [.s, .z, .ac, .p, .cy] s (s.setFlags r) := by
  intro k hk
  simp only [List.map_cons, List.map_nil, List.mem_cons, List.not_mem_nil, or_false, not_or] at hk
  simp [putFlag_getLsbD, hk]

end Sys2Proof.Machine
end

