-- ==== Sys2Proof/Laws/PerInstr.lean ====
section
/-! SUPPORT. The per-instruction family Encoding of LAWS.json: one lemma per constructor. -/
namespace Sys2Proof.Laws.Encoding

/-- The encoding starts with a defined opcode byte and has the length that byte's format gives
(30_encoding.md R70 to R72). -/
def Statement (i : Instr) : Prop :=
  ∃ op rest fmt, encode i = op :: rest ∧ opFormat op = some fmt ∧ (encode i).length = fmt.length

theorem lxiB (d16 : Word) : Statement (.lxiB d16) := ⟨_, _, .i3, rfl, by decide, rfl⟩
theorem mviB (d8 : Byte) : Statement (.mviB d8) := ⟨_, _, .i2, rfl, by decide, rfl⟩
theorem mviC (d8 : Byte) : Statement (.mviC d8) := ⟨_, _, .i2, rfl, by decide, rfl⟩
theorem lxiD (d16 : Word) : Statement (.lxiD d16) := ⟨_, _, .i3, rfl, by decide, rfl⟩
theorem mviD (d8 : Byte) : Statement (.mviD d8) := ⟨_, _, .i2, rfl, by decide, rfl⟩
theorem mviE (d8 : Byte) : Statement (.mviE d8) := ⟨_, _, .i2, rfl, by decide, rfl⟩
theorem lxiH (d16 : Word) : Statement (.lxiH d16) := ⟨_, _, .i3, rfl, by decide, rfl⟩
theorem shld (a16 : Word) : Statement (.shld a16) := ⟨_, _, .i3, rfl, by decide, rfl⟩
theorem mviH (d8 : Byte) : Statement (.mviH d8) := ⟨_, _, .i2, rfl, by decide, rfl⟩
theorem lhld (a16 : Word) : Statement (.lhld a16) := ⟨_, _, .i3, rfl, by decide, rfl⟩
theorem mviL (d8 : Byte) : Statement (.mviL d8) := ⟨_, _, .i2, rfl, by decide, rfl⟩
theorem lxiSp (d16 : Word) : Statement (.lxiSp d16) := ⟨_, _, .i3, rfl, by decide, rfl⟩
theorem sta (a16 : Word) : Statement (.sta a16) := ⟨_, _, .i3, rfl, by decide, rfl⟩
theorem mviM (d8 : Byte) : Statement (.mviM d8) := ⟨_, _, .i2, rfl, by decide, rfl⟩
theorem lda (a16 : Word) : Statement (.lda a16) := ⟨_, _, .i3, rfl, by decide, rfl⟩
theorem mviA (d8 : Byte) : Statement (.mviA d8) := ⟨_, _, .i2, rfl, by decide, rfl⟩
theorem jnz (a16 : Word) : Statement (.jnz a16) := ⟨_, _, .i3, rfl, by decide, rfl⟩
theorem jmp (a16 : Word) : Statement (.jmp a16) := ⟨_, _, .i3, rfl, by decide, rfl⟩
theorem cnz (a16 : Word) : Statement (.cnz a16) := ⟨_, _, .i3, rfl, by decide, rfl⟩
theorem adi (d8 : Byte) : Statement (.adi d8) := ⟨_, _, .i2, rfl, by decide, rfl⟩
theorem jz (a16 : Word) : Statement (.jz a16) := ⟨_, _, .i3, rfl, by decide, rfl⟩
theorem cz (a16 : Word) : Statement (.cz a16) := ⟨_, _, .i3, rfl, by decide, rfl⟩
theorem call (a16 : Word) : Statement (.call a16) := ⟨_, _, .i3, rfl, by decide, rfl⟩
theorem aci (d8 : Byte) : Statement (.aci d8) := ⟨_, _, .i2, rfl, by decide, rfl⟩
theorem jnc (a16 : Word) : Statement (.jnc a16) := ⟨_, _, .i3, rfl, by decide, rfl⟩
theorem outPort (port : Byte) : Statement (.outPort port) := ⟨_, _, .i2, rfl, by decide, rfl⟩
theorem cnc (a16 : Word) : Statement (.cnc a16) := ⟨_, _, .i3, rfl, by decide, rfl⟩
theorem sui (d8 : Byte) : Statement (.sui d8) := ⟨_, _, .i2, rfl, by decide, rfl⟩
theorem jc (a16 : Word) : Statement (.jc a16) := ⟨_, _, .i3, rfl, by decide, rfl⟩
theorem inPort (port : Byte) : Statement (.inPort port) := ⟨_, _, .i2, rfl, by decide, rfl⟩
theorem cc (a16 : Word) : Statement (.cc a16) := ⟨_, _, .i3, rfl, by decide, rfl⟩
theorem sbi (d8 : Byte) : Statement (.sbi d8) := ⟨_, _, .i2, rfl, by decide, rfl⟩
theorem jpo (a16 : Word) : Statement (.jpo a16) := ⟨_, _, .i3, rfl, by decide, rfl⟩
theorem cpo (a16 : Word) : Statement (.cpo a16) := ⟨_, _, .i3, rfl, by decide, rfl⟩
theorem ani (d8 : Byte) : Statement (.ani d8) := ⟨_, _, .i2, rfl, by decide, rfl⟩
theorem jpe (a16 : Word) : Statement (.jpe a16) := ⟨_, _, .i3, rfl, by decide, rfl⟩
theorem cpe (a16 : Word) : Statement (.cpe a16) := ⟨_, _, .i3, rfl, by decide, rfl⟩
theorem xri (d8 : Byte) : Statement (.xri d8) := ⟨_, _, .i2, rfl, by decide, rfl⟩
theorem jp (a16 : Word) : Statement (.jp a16) := ⟨_, _, .i3, rfl, by decide, rfl⟩
theorem cp (a16 : Word) : Statement (.cp a16) := ⟨_, _, .i3, rfl, by decide, rfl⟩
theorem ori (d8 : Byte) : Statement (.ori d8) := ⟨_, _, .i2, rfl, by decide, rfl⟩
theorem jm (a16 : Word) : Statement (.jm a16) := ⟨_, _, .i3, rfl, by decide, rfl⟩
theorem cm (a16 : Word) : Statement (.cm a16) := ⟨_, _, .i3, rfl, by decide, rfl⟩
theorem cpi (d8 : Byte) : Statement (.cpi d8) := ⟨_, _, .i2, rfl, by decide, rfl⟩
theorem nop : Statement .nop := ⟨_, _, .i1, rfl, by decide, rfl⟩
theorem staxB : Statement .staxB := ⟨_, _, .i1, rfl, by decide, rfl⟩
theorem inxB : Statement .inxB := ⟨_, _, .i1, rfl, by decide, rfl⟩
theorem inrB : Statement .inrB := ⟨_, _, .i1, rfl, by decide, rfl⟩
theorem dcrB : Statement .dcrB := ⟨_, _, .i1, rfl, by decide, rfl⟩
theorem rlc : Statement .rlc := ⟨_, _, .i1, rfl, by decide, rfl⟩
theorem dadB : Statement .dadB := ⟨_, _, .i1, rfl, by decide, rfl⟩
theorem ldaxB : Statement .ldaxB := ⟨_, _, .i1, rfl, by decide, rfl⟩
theorem dcxB : Statement .dcxB := ⟨_, _, .i1, rfl, by decide, rfl⟩
theorem inrC : Statement .inrC := ⟨_, _, .i1, rfl, by decide, rfl⟩
theorem dcrC : Statement .dcrC := ⟨_, _, .i1, rfl, by decide, rfl⟩
theorem rrc : Statement .rrc := ⟨_, _, .i1, rfl, by decide, rfl⟩
theorem staxD : Statement .staxD := ⟨_, _, .i1, rfl, by decide, rfl⟩
theorem inxD : Statement .inxD := ⟨_, _, .i1, rfl, by decide, rfl⟩
theorem inrD : Statement .inrD := ⟨_, _, .i1, rfl, by decide, rfl⟩
theorem dcrD : Statement .dcrD := ⟨_, _, .i1, rfl, by decide, rfl⟩
theorem ral : Statement .ral := ⟨_, _, .i1, rfl, by decide, rfl⟩
theorem dadD : Statement .dadD := ⟨_, _, .i1, rfl, by decide, rfl⟩
theorem ldaxD : Statement .ldaxD := ⟨_, _, .i1, rfl, by decide, rfl⟩
theorem dcxD : Statement .dcxD := ⟨_, _, .i1, rfl, by decide, rfl⟩
theorem inrE : Statement .inrE := ⟨_, _, .i1, rfl, by decide, rfl⟩
theorem dcrE : Statement .dcrE := ⟨_, _, .i1, rfl, by decide, rfl⟩
theorem rar : Statement .rar := ⟨_, _, .i1, rfl, by decide, rfl⟩
theorem rim : Statement .rim := ⟨_, _, .i1, rfl, by decide, rfl⟩
theorem inxH : Statement .inxH := ⟨_, _, .i1, rfl, by decide, rfl⟩
theorem inrH : Statement .inrH := ⟨_, _, .i1, rfl, by decide, rfl⟩
theorem dcrH : Statement .dcrH := ⟨_, _, .i1, rfl, by decide, rfl⟩
theorem daa : Statement .daa := ⟨_, _, .i1, rfl, by decide, rfl⟩
theorem dadH : Statement .dadH := ⟨_, _, .i1, rfl, by decide, rfl⟩
theorem dcxH : Statement .dcxH := ⟨_, _, .i1, rfl, by decide, rfl⟩
theorem inrL : Statement .inrL := ⟨_, _, .i1, rfl, by decide, rfl⟩
theorem dcrL : Statement .dcrL := ⟨_, _, .i1, rfl, by decide, rfl⟩
theorem cma : Statement .cma := ⟨_, _, .i1, rfl, by decide, rfl⟩
theorem sim : Statement .sim := ⟨_, _, .i1, rfl, by decide, rfl⟩
theorem inxSp : Statement .inxSp := ⟨_, _, .i1, rfl, by decide, rfl⟩
theorem inrM : Statement .inrM := ⟨_, _, .i1, rfl, by decide, rfl⟩
theorem dcrM : Statement .dcrM := ⟨_, _, .i1, rfl, by decide, rfl⟩
theorem stc : Statement .stc := ⟨_, _, .i1, rfl, by decide, rfl⟩
theorem dadSp : Statement .dadSp := ⟨_, _, .i1, rfl, by decide, rfl⟩
theorem dcxSp : Statement .dcxSp := ⟨_, _, .i1, rfl, by decide, rfl⟩
theorem inrA : Statement .inrA := ⟨_, _, .i1, rfl, by decide, rfl⟩
theorem dcrA : Statement .dcrA := ⟨_, _, .i1, rfl, by decide, rfl⟩
theorem cmc : Statement .cmc := ⟨_, _, .i1, rfl, by decide, rfl⟩
theorem movBB : Statement .movBB := ⟨_, _, .i1, rfl, by decide, rfl⟩
theorem movBC : Statement .movBC := ⟨_, _, .i1, rfl, by decide, rfl⟩
theorem movBD : Statement .movBD := ⟨_, _, .i1, rfl, by decide, rfl⟩
theorem movBE : Statement .movBE := ⟨_, _, .i1, rfl, by decide, rfl⟩
theorem movBH : Statement .movBH := ⟨_, _, .i1, rfl, by decide, rfl⟩
theorem movBL : Statement .movBL := ⟨_, _, .i1, rfl, by decide, rfl⟩
theorem movBM : Statement .movBM := ⟨_, _, .i1, rfl, by decide, rfl⟩
theorem movBA : Statement .movBA := ⟨_, _, .i1, rfl, by decide, rfl⟩
theorem movCB : Statement .movCB := ⟨_, _, .i1, rfl, by decide, rfl⟩
theorem movCC : Statement .movCC := ⟨_, _, .i1, rfl, by decide, rfl⟩
theorem movCD : Statement .movCD := ⟨_, _, .i1, rfl, by decide, rfl⟩
theorem movCE : Statement .movCE := ⟨_, _, .i1, rfl, by decide, rfl⟩
theorem movCH : Statement .movCH := ⟨_, _, .i1, rfl, by decide, rfl⟩
theorem movCL : Statement .movCL := ⟨_, _, .i1, rfl, by decide, rfl⟩
theorem movCM : Statement .movCM := ⟨_, _, .i1, rfl, by decide, rfl⟩
theorem movCA : Statement .movCA := ⟨_, _, .i1, rfl, by decide, rfl⟩
theorem movDB : Statement .movDB := ⟨_, _, .i1, rfl, by decide, rfl⟩
theorem movDC : Statement .movDC := ⟨_, _, .i1, rfl, by decide, rfl⟩
theorem movDD : Statement .movDD := ⟨_, _, .i1, rfl, by decide, rfl⟩
theorem movDE : Statement .movDE := ⟨_, _, .i1, rfl, by decide, rfl⟩
theorem movDH : Statement .movDH := ⟨_, _, .i1, rfl, by decide, rfl⟩
theorem movDL : Statement .movDL := ⟨_, _, .i1, rfl, by decide, rfl⟩
theorem movDM : Statement .movDM := ⟨_, _, .i1, rfl, by decide, rfl⟩
theorem movDA : Statement .movDA := ⟨_, _, .i1, rfl, by decide, rfl⟩
theorem movEB : Statement .movEB := ⟨_, _, .i1, rfl, by decide, rfl⟩
theorem movEC : Statement .movEC := ⟨_, _, .i1, rfl, by decide, rfl⟩
theorem movED : Statement .movED := ⟨_, _, .i1, rfl, by decide, rfl⟩
theorem movEE : Statement .movEE := ⟨_, _, .i1, rfl, by decide, rfl⟩
theorem movEH : Statement .movEH := ⟨_, _, .i1, rfl, by decide, rfl⟩
theorem movEL : Statement .movEL := ⟨_, _, .i1, rfl, by decide, rfl⟩
theorem movEM : Statement .movEM := ⟨_, _, .i1, rfl, by decide, rfl⟩
theorem movEA : Statement .movEA := ⟨_, _, .i1, rfl, by decide, rfl⟩
theorem movHB : Statement .movHB := ⟨_, _, .i1, rfl, by decide, rfl⟩
theorem movHC : Statement .movHC := ⟨_, _, .i1, rfl, by decide, rfl⟩
theorem movHD : Statement .movHD := ⟨_, _, .i1, rfl, by decide, rfl⟩
theorem movHE : Statement .movHE := ⟨_, _, .i1, rfl, by decide, rfl⟩
theorem movHH : Statement .movHH := ⟨_, _, .i1, rfl, by decide, rfl⟩
theorem movHL : Statement .movHL := ⟨_, _, .i1, rfl, by decide, rfl⟩
theorem movHM : Statement .movHM := ⟨_, _, .i1, rfl, by decide, rfl⟩
theorem movHA : Statement .movHA := ⟨_, _, .i1, rfl, by decide, rfl⟩
theorem movLB : Statement .movLB := ⟨_, _, .i1, rfl, by decide, rfl⟩
theorem movLC : Statement .movLC := ⟨_, _, .i1, rfl, by decide, rfl⟩
theorem movLD : Statement .movLD := ⟨_, _, .i1, rfl, by decide, rfl⟩
theorem movLE : Statement .movLE := ⟨_, _, .i1, rfl, by decide, rfl⟩
theorem movLH : Statement .movLH := ⟨_, _, .i1, rfl, by decide, rfl⟩
theorem movLL : Statement .movLL := ⟨_, _, .i1, rfl, by decide, rfl⟩
theorem movLM : Statement .movLM := ⟨_, _, .i1, rfl, by decide, rfl⟩
theorem movLA : Statement .movLA := ⟨_, _, .i1, rfl, by decide, rfl⟩
theorem movMB : Statement .movMB := ⟨_, _, .i1, rfl, by decide, rfl⟩
theorem movMC : Statement .movMC := ⟨_, _, .i1, rfl, by decide, rfl⟩
theorem movMD : Statement .movMD := ⟨_, _, .i1, rfl, by decide, rfl⟩
theorem movME : Statement .movME := ⟨_, _, .i1, rfl, by decide, rfl⟩
theorem movMH : Statement .movMH := ⟨_, _, .i1, rfl, by decide, rfl⟩
theorem movML : Statement .movML := ⟨_, _, .i1, rfl, by decide, rfl⟩
theorem hlt : Statement .hlt := ⟨_, _, .i1, rfl, by decide, rfl⟩
theorem movMA : Statement .movMA := ⟨_, _, .i1, rfl, by decide, rfl⟩
theorem movAB : Statement .movAB := ⟨_, _, .i1, rfl, by decide, rfl⟩
theorem movAC : Statement .movAC := ⟨_, _, .i1, rfl, by decide, rfl⟩
theorem movAD : Statement .movAD := ⟨_, _, .i1, rfl, by decide, rfl⟩
theorem movAE : Statement .movAE := ⟨_, _, .i1, rfl, by decide, rfl⟩
theorem movAH : Statement .movAH := ⟨_, _, .i1, rfl, by decide, rfl⟩
theorem movAL : Statement .movAL := ⟨_, _, .i1, rfl, by decide, rfl⟩
theorem movAM : Statement .movAM := ⟨_, _, .i1, rfl, by decide, rfl⟩
theorem movAA : Statement .movAA := ⟨_, _, .i1, rfl, by decide, rfl⟩
theorem addB : Statement .addB := ⟨_, _, .i1, rfl, by decide, rfl⟩
theorem addC : Statement .addC := ⟨_, _, .i1, rfl, by decide, rfl⟩
theorem addD : Statement .addD := ⟨_, _, .i1, rfl, by decide, rfl⟩
theorem addE : Statement .addE := ⟨_, _, .i1, rfl, by decide, rfl⟩
theorem addH : Statement .addH := ⟨_, _, .i1, rfl, by decide, rfl⟩
theorem addL : Statement .addL := ⟨_, _, .i1, rfl, by decide, rfl⟩
theorem addM : Statement .addM := ⟨_, _, .i1, rfl, by decide, rfl⟩
theorem addA : Statement .addA := ⟨_, _, .i1, rfl, by decide, rfl⟩
theorem adcB : Statement .adcB := ⟨_, _, .i1, rfl, by decide, rfl⟩
theorem adcC : Statement .adcC := ⟨_, _, .i1, rfl, by decide, rfl⟩
theorem adcD : Statement .adcD := ⟨_, _, .i1, rfl, by decide, rfl⟩
theorem adcE : Statement .adcE := ⟨_, _, .i1, rfl, by decide, rfl⟩
theorem adcH : Statement .adcH := ⟨_, _, .i1, rfl, by decide, rfl⟩
theorem adcL : Statement .adcL := ⟨_, _, .i1, rfl, by decide, rfl⟩
theorem adcM : Statement .adcM := ⟨_, _, .i1, rfl, by decide, rfl⟩
theorem adcA : Statement .adcA := ⟨_, _, .i1, rfl, by decide, rfl⟩
theorem subB : Statement .subB := ⟨_, _, .i1, rfl, by decide, rfl⟩
theorem subC : Statement .subC := ⟨_, _, .i1, rfl, by decide, rfl⟩
theorem subD : Statement .subD := ⟨_, _, .i1, rfl, by decide, rfl⟩
theorem subE : Statement .subE := ⟨_, _, .i1, rfl, by decide, rfl⟩
theorem subH : Statement .subH := ⟨_, _, .i1, rfl, by decide, rfl⟩
theorem subL : Statement .subL := ⟨_, _, .i1, rfl, by decide, rfl⟩
theorem subM : Statement .subM := ⟨_, _, .i1, rfl, by decide, rfl⟩
theorem subA : Statement .subA := ⟨_, _, .i1, rfl, by decide, rfl⟩
theorem sbbB : Statement .sbbB := ⟨_, _, .i1, rfl, by decide, rfl⟩
theorem sbbC : Statement .sbbC := ⟨_, _, .i1, rfl, by decide, rfl⟩
theorem sbbD : Statement .sbbD := ⟨_, _, .i1, rfl, by decide, rfl⟩
theorem sbbE : Statement .sbbE := ⟨_, _, .i1, rfl, by decide, rfl⟩
theorem sbbH : Statement .sbbH := ⟨_, _, .i1, rfl, by decide, rfl⟩
theorem sbbL : Statement .sbbL := ⟨_, _, .i1, rfl, by decide, rfl⟩
theorem sbbM : Statement .sbbM := ⟨_, _, .i1, rfl, by decide, rfl⟩
theorem sbbA : Statement .sbbA := ⟨_, _, .i1, rfl, by decide, rfl⟩
theorem anaB : Statement .anaB := ⟨_, _, .i1, rfl, by decide, rfl⟩
theorem anaC : Statement .anaC := ⟨_, _, .i1, rfl, by decide, rfl⟩
theorem anaD : Statement .anaD := ⟨_, _, .i1, rfl, by decide, rfl⟩
theorem anaE : Statement .anaE := ⟨_, _, .i1, rfl, by decide, rfl⟩
theorem anaH : Statement .anaH := ⟨_, _, .i1, rfl, by decide, rfl⟩
theorem anaL : Statement .anaL := ⟨_, _, .i1, rfl, by decide, rfl⟩
theorem anaM : Statement .anaM := ⟨_, _, .i1, rfl, by decide, rfl⟩
theorem anaA : Statement .anaA := ⟨_, _, .i1, rfl, by decide, rfl⟩
theorem xraB : Statement .xraB := ⟨_, _, .i1, rfl, by decide, rfl⟩
theorem xraC : Statement .xraC := ⟨_, _, .i1, rfl, by decide, rfl⟩
theorem xraD : Statement .xraD := ⟨_, _, .i1, rfl, by decide, rfl⟩
theorem xraE : Statement .xraE := ⟨_, _, .i1, rfl, by decide, rfl⟩
theorem xraH : Statement .xraH := ⟨_, _, .i1, rfl, by decide, rfl⟩
theorem xraL : Statement .xraL := ⟨_, _, .i1, rfl, by decide, rfl⟩
theorem xraM : Statement .xraM := ⟨_, _, .i1, rfl, by decide, rfl⟩
theorem xraA : Statement .xraA := ⟨_, _, .i1, rfl, by decide, rfl⟩
theorem oraB : Statement .oraB := ⟨_, _, .i1, rfl, by decide, rfl⟩
theorem oraC : Statement .oraC := ⟨_, _, .i1, rfl, by decide, rfl⟩
theorem oraD : Statement .oraD := ⟨_, _, .i1, rfl, by decide, rfl⟩
theorem oraE : Statement .oraE := ⟨_, _, .i1, rfl, by decide, rfl⟩
theorem oraH : Statement .oraH := ⟨_, _, .i1, rfl, by decide, rfl⟩
theorem oraL : Statement .oraL := ⟨_, _, .i1, rfl, by decide, rfl⟩
theorem oraM : Statement .oraM := ⟨_, _, .i1, rfl, by decide, rfl⟩
theorem oraA : Statement .oraA := ⟨_, _, .i1, rfl, by decide, rfl⟩
theorem cmpB : Statement .cmpB := ⟨_, _, .i1, rfl, by decide, rfl⟩
theorem cmpC : Statement .cmpC := ⟨_, _, .i1, rfl, by decide, rfl⟩
theorem cmpD : Statement .cmpD := ⟨_, _, .i1, rfl, by decide, rfl⟩
theorem cmpE : Statement .cmpE := ⟨_, _, .i1, rfl, by decide, rfl⟩
theorem cmpH : Statement .cmpH := ⟨_, _, .i1, rfl, by decide, rfl⟩
theorem cmpL : Statement .cmpL := ⟨_, _, .i1, rfl, by decide, rfl⟩
theorem cmpM : Statement .cmpM := ⟨_, _, .i1, rfl, by decide, rfl⟩
theorem cmpA : Statement .cmpA := ⟨_, _, .i1, rfl, by decide, rfl⟩
theorem rnz : Statement .rnz := ⟨_, _, .i1, rfl, by decide, rfl⟩
theorem popB : Statement .popB := ⟨_, _, .i1, rfl, by decide, rfl⟩
theorem pushB : Statement .pushB := ⟨_, _, .i1, rfl, by decide, rfl⟩
theorem rst0 : Statement .rst0 := ⟨_, _, .i1, rfl, by decide, rfl⟩
theorem rz : Statement .rz := ⟨_, _, .i1, rfl, by decide, rfl⟩
theorem ret : Statement .ret := ⟨_, _, .i1, rfl, by decide, rfl⟩
theorem rst1 : Statement .rst1 := ⟨_, _, .i1, rfl, by decide, rfl⟩
theorem rnc : Statement .rnc := ⟨_, _, .i1, rfl, by decide, rfl⟩
theorem popD : Statement .popD := ⟨_, _, .i1, rfl, by decide, rfl⟩
theorem pushD : Statement .pushD := ⟨_, _, .i1, rfl, by decide, rfl⟩
theorem rst2 : Statement .rst2 := ⟨_, _, .i1, rfl, by decide, rfl⟩
theorem rc : Statement .rc := ⟨_, _, .i1, rfl, by decide, rfl⟩
theorem rst3 : Statement .rst3 := ⟨_, _, .i1, rfl, by decide, rfl⟩
theorem rpo : Statement .rpo := ⟨_, _, .i1, rfl, by decide, rfl⟩
theorem popH : Statement .popH := ⟨_, _, .i1, rfl, by decide, rfl⟩
theorem xthl : Statement .xthl := ⟨_, _, .i1, rfl, by decide, rfl⟩
theorem pushH : Statement .pushH := ⟨_, _, .i1, rfl, by decide, rfl⟩
theorem rst4 : Statement .rst4 := ⟨_, _, .i1, rfl, by decide, rfl⟩
theorem rpe : Statement .rpe := ⟨_, _, .i1, rfl, by decide, rfl⟩
theorem pchl : Statement .pchl := ⟨_, _, .i1, rfl, by decide, rfl⟩
theorem xchg : Statement .xchg := ⟨_, _, .i1, rfl, by decide, rfl⟩
theorem rst5 : Statement .rst5 := ⟨_, _, .i1, rfl, by decide, rfl⟩
theorem rp : Statement .rp := ⟨_, _, .i1, rfl, by decide, rfl⟩
theorem popPsw : Statement .popPsw := ⟨_, _, .i1, rfl, by decide, rfl⟩
theorem di : Statement .di := ⟨_, _, .i1, rfl, by decide, rfl⟩
theorem pushPsw : Statement .pushPsw := ⟨_, _, .i1, rfl, by decide, rfl⟩
theorem rst6 : Statement .rst6 := ⟨_, _, .i1, rfl, by decide, rfl⟩
theorem rm : Statement .rm := ⟨_, _, .i1, rfl, by decide, rfl⟩
theorem sphl : Statement .sphl := ⟨_, _, .i1, rfl, by decide, rfl⟩
theorem ei : Statement .ei := ⟨_, _, .i1, rfl, by decide, rfl⟩
theorem rst7 : Statement .rst7 := ⟨_, _, .i1, rfl, by decide, rfl⟩

end Sys2Proof.Laws.Encoding
end

