-- ==== Sys2Proof/Laws/RunLoop.lean ====
section
/-! SUPPORT. What the run loop's operations can do, said once: the stop check, a settled outcome, one turn, and a run of
turns. -/
namespace Sys2Proof.Machine

/-- All the stop check can do: pause a running engine on a single step or at a breakpoint, or nothing. -/
theorem stopCheck_cases (s : State) (single : Bool) :
    (s.status = .running ∧ (single = true ∨ s.pc ∈ s.breakpoints) ∧ s.stopCheck single = s.pause) ∨
    (¬ (s.status = .running ∧ (single = true ∨ s.pc ∈ s.breakpoints)) ∧ s.stopCheck single = s) := by
  unfold State.stopCheck
  split
  · next hs =>
    by_cases h : single = true ∨ s.pc ∈ s.breakpoints
    · exact .inl ⟨hs, h, by simp [h]⟩
    · exact .inr ⟨fun hc => h hc.2, by simp [h]⟩
  all_goals next hs => exact .inr ⟨by simp [hs], rfl⟩

/-- A settled outcome that is a next state: the checked next state, or the fault taken. -/
theorem settle_eq_next {single : Bool} {s t : State} {o : Result} (h : settle single s o = .next t) :
    (∃ u, o = .next u ∧ t = u.stopCheck single) ∨ (∃ r, o = .fault r ∧ t = s.takeFault r) := by
  cases o with
  | next u => exact .inl ⟨u, rfl, by simpa [settle] using h.symm⟩
  | fault r => exact .inr ⟨r, rfl, by simpa [settle] using h.symm⟩
  | refused q => simp [settle] at h

/-- All one turn can answer next with. -/
theorem iterate_eq_next {single : Bool} {s t : State} (h : iterate single s = .next t) :
    (s.active ∧ ((∃ u, stepOne s.enterRun = .next u ∧ t = u.stopCheck single) ∨
      ∃ r, stepOne s.enterRun = .fault r ∧ t = s.enterRun.takeFault r)) ∨
    (s.status = .blockedIn ∧ t = s.resumeIn.stopCheck single) ∨
    (¬ s.active ∧ s.status ≠ .blockedIn ∧ t = s) := by
  unfold iterate at h
  split at h
  · next hs => exact .inl ⟨.inl hs, settle_eq_next h⟩
  · next hs => exact .inl ⟨.inr hs, settle_eq_next h⟩
  · next hs => exact .inr (.inl ⟨hs, by simpa [settle] using h.symm⟩)
  all_goals
    next hs => exact .inr (.inr ⟨by simp [State.active, hs], by simp [hs], by simpa using h.symm⟩)

/-- A turn of an engine about to run an instruction. -/
theorem iterate_of_active {single : Bool} {s : State} (h : s.active) :
    iterate single s = settle single s.enterRun (stepOne s.enterRun) := by
  rcases h with h | h <;> simp [iterate, h]

/-- step_one that answers next: the fetched instruction's next state. -/
theorem stepOne_eq_next {s t : State} (h : stepOne s = .next t) :
    ∃ x, s.fetch = .ok x ∧ exec x.instr { s with pc := x.next } = .next t := by
  unfold stepOne at h
  split at h
  · exact absurd h (by simp)
  · next x hx => exact ⟨x, hx, h⟩

/-- A turn of an engine that waits in IN and has no answer. -/
theorem iterate_of_waiting {single : Bool} {s : State} (h : s.status = .blockedIn) (hin : s.hostIn = []) :
    iterate single s = .next s := by
  simp [iterate, settle, State.stopCheck, State.resumeIn, h, hin]

/-- One turn of a run in progress, and the turns left. -/
theorem runLoop_succ {single : Bool} {s t : State} {turns : Nat} (hs : s.inRun = true)
    (ht : iterate single s = .next t) : runLoop (turns + 1) single s = runLoop turns single t := by
  simp [runLoop, hs, ht]

/-- A run that has returned makes no turn. -/
theorem runLoop_of_returned {single : Bool} {s : State} (hs : s.inRun = false) (turns : Nat) :
    runLoop turns single s = .next s := by
  cases turns <;> simp [runLoop, hs]

/-- An engine that waits in IN without an answer waits for all the turns. -/
theorem runLoop_of_waiting {single : Bool} {s : State} (h : s.status = .blockedIn) (hin : s.hostIn = [])
    (turns : Nat) : runLoop turns single s = .next s := by
  induction turns with
  | zero => rfl
  | succ n ih => rw [runLoop_succ (by simp [State.inRun, h]) (iterate_of_waiting h hin), ih]

/-- What every turn keeps, a run of turns keeps. -/
theorem runLoop_keeps {P : State → Prop} {single : Bool}
    (turn : ∀ s t, P s → iterate single s = .next t → P t) {turns : Nat} {s t : State} (hs : P s)
    (h : runLoop turns single s = .next t) : P t := by
  induction turns generalizing s with
  | zero => cases h; exact hs
  | succ n ih =>
    unfold runLoop at h
    split at h
    · split at h
      · next u hu => exact ih (turn s u hs hu) h
      · cases h
      · cases h
    · cases h; exact hs

/-- What every turn and entering a run keep, run keeps. -/
theorem run_keeps {P : State → Prop} {single : Bool} (turn : ∀ s t, P s → iterate single s = .next t → P t)
    (enter : ∀ s, P s → P s.enterRun) {turns : Nat} {s t : State} (hs : P s)
    (h : run turns single s = .next t) : P t := by
  unfold run at h
  split at h
  all_goals first
    | exact runLoop_keeps turn hs h
    | exact runLoop_keeps turn (enter s hs) h
    | (cases h; exact hs)

/-- A paused engine's run is entered whatever stands in the breakpoint set. -/
theorem run_of_paused {s : State} (h : s.status = .paused) (turns : Nat) (single : Bool) :
    run turns single s = runLoop turns single s.enterRun := by
  simp [run, h]

/-- exec(start) is the loop from the machine with PC at start and the run entered. -/
theorem execFrom_eq (turns : Nat) (start : Word) (s : State) :
    execFrom turns start s = runLoop turns false { s with pc := start, status := .running, paused := false } := rfl

end Sys2Proof.Machine
end

