-- ==== Sys2Proof/Tests/Slice0.lean ====
section
/-! SUPPORT. The model's own tests: the decoder against the opcode map, the static checks, one step of each kind of
instruction against 95_test_vectors.md, the controller, and for each obligation with hypotheses a state and operands
that meet them all. -/
namespace Sys2Proof.Tests

open Sys2Proof Sys2Proof.Machine

/-! ### The static checks refuse what is ill-formed -/

/-- 1 <= MEM_SIZE (00_scope.md R6). -/
theorem test_config_memory_size_zero_refused :
    Config.wellFormed { Config.default with memSize := 0 } = false := by decide

/-- MEM_SIZE <= 0x10000 (00_scope.md R6). -/
theorem test_config_memory_size_above_64k_refused :
    Config.wellFormed { Config.default with memSize := 0x10001 } = false := by decide

/-- An image whose last byte is beyond MEM_SIZE (20_memory.md R50). -/
theorem test_image_beyond_memory_refused :
    Image.wellFormed Config.default { start := 0xFFFF, bytes := [0x76, 0x76] } = false := by decide

/-- Loading it is refused too. -/
theorem test_load_beyond_memory_refused :
    State.reset.loadImage { start := 0xFFFF, bytes := [0x76, 0x76] } = none := by decide

/-- The parameters and an image in range are accepted. -/
theorem test_config_and_image_accepted :
    Config.default.wellFormed = true ∧
    Image.wellFormed Config.default { start := 0xFFFE, bytes := [0x76, 0x76] } = true := by decide

/-! ### Decoding

The rows of the opcode map of 30_encoding.md R84, with operand bytes 34 12: byte 2 is d8, and byte 3, byte 2
are the high and low byte of d16 and a16 (R78). -/

/-- The instructions the decoder reads from eight opcode bytes, each followed by 34 12. -/
def mapRow (first : Nat) : List (Option Instr) :=
  (List.range 8).map fun k => (decode [BitVec.ofNat 8 (first + k), 0x34, 0x12]).toOption.map Prod.fst

theorem test_decode_00 : mapRow 0x00 =
    [some .nop, some (.lxiB 0x1234), some .staxB, some .inxB, some .inrB, some .dcrB, some (.mviB 0x34), some .rlc] := by decide

theorem test_decode_08 : mapRow 0x08 =
    [none, some .dadB, some .ldaxB, some .dcxB, some .inrC, some .dcrC, some (.mviC 0x34), some .rrc] := by decide

theorem test_decode_10 : mapRow 0x10 =
    [none, some (.lxiD 0x1234), some .staxD, some .inxD, some .inrD, some .dcrD, some (.mviD 0x34), some .ral] := by decide

theorem test_decode_18 : mapRow 0x18 =
    [none, some .dadD, some .ldaxD, some .dcxD, some .inrE, some .dcrE, some (.mviE 0x34), some .rar] := by decide

theorem test_decode_20 : mapRow 0x20 =
    [some .rim, some (.lxiH 0x1234), some (.shld 0x1234), some .inxH, some .inrH, some .dcrH, some (.mviH 0x34), some .daa] := by decide

theorem test_decode_28 : mapRow 0x28 =
    [none, some .dadH, some (.lhld 0x1234), some .dcxH, some .inrL, some .dcrL, some (.mviL 0x34), some .cma] := by decide

theorem test_decode_30 : mapRow 0x30 =
    [some .sim, some (.lxiSp 0x1234), some (.sta 0x1234), some .inxSp, some .inrM, some .dcrM, some (.mviM 0x34), some .stc] := by decide

theorem test_decode_38 : mapRow 0x38 =
    [none, some .dadSp, some (.lda 0x1234), some .dcxSp, some .inrA, some .dcrA, some (.mviA 0x34), some .cmc] := by decide

theorem test_decode_40 : mapRow 0x40 =
    [some .movBB, some .movBC, some .movBD, some .movBE, some .movBH, some .movBL, some .movBM, some .movBA] := by decide

theorem test_decode_48 : mapRow 0x48 =
    [some .movCB, some .movCC, some .movCD, some .movCE, some .movCH, some .movCL, some .movCM, some .movCA] := by decide

theorem test_decode_50 : mapRow 0x50 =
    [some .movDB, some .movDC, some .movDD, some .movDE, some .movDH, some .movDL, some .movDM, some .movDA] := by decide

theorem test_decode_58 : mapRow 0x58 =
    [some .movEB, some .movEC, some .movED, some .movEE, some .movEH, some .movEL, some .movEM, some .movEA] := by decide

theorem test_decode_60 : mapRow 0x60 =
    [some .movHB, some .movHC, some .movHD, some .movHE, some .movHH, some .movHL, some .movHM, some .movHA] := by decide

theorem test_decode_68 : mapRow 0x68 =
    [some .movLB, some .movLC, some .movLD, some .movLE, some .movLH, some .movLL, some .movLM, some .movLA] := by decide

theorem test_decode_70 : mapRow 0x70 =
    [some .movMB, some .movMC, some .movMD, some .movME, some .movMH, some .movML, some .hlt, some .movMA] := by decide

theorem test_decode_78 : mapRow 0x78 =
    [some .movAB, some .movAC, some .movAD, some .movAE, some .movAH, some .movAL, some .movAM, some .movAA] := by decide

theorem test_decode_80 : mapRow 0x80 =
    [some .addB, some .addC, some .addD, some .addE, some .addH, some .addL, some .addM, some .addA] := by decide

theorem test_decode_88 : mapRow 0x88 =
    [some .adcB, some .adcC, some .adcD, some .adcE, some .adcH, some .adcL, some .adcM, some .adcA] := by decide

theorem test_decode_90 : mapRow 0x90 =
    [some .subB, some .subC, some .subD, some .subE, some .subH, some .subL, some .subM, some .subA] := by decide

theorem test_decode_98 : mapRow 0x98 =
    [some .sbbB, some .sbbC, some .sbbD, some .sbbE, some .sbbH, some .sbbL, some .sbbM, some .sbbA] := by decide

theorem test_decode_A0 : mapRow 0xA0 =
    [some .anaB, some .anaC, some .anaD, some .anaE, some .anaH, some .anaL, some .anaM, some .anaA] := by decide

theorem test_decode_A8 : mapRow 0xA8 =
    [some .xraB, some .xraC, some .xraD, some .xraE, some .xraH, some .xraL, some .xraM, some .xraA] := by decide

theorem test_decode_B0 : mapRow 0xB0 =
    [some .oraB, some .oraC, some .oraD, some .oraE, some .oraH, some .oraL, some .oraM, some .oraA] := by decide

theorem test_decode_B8 : mapRow 0xB8 =
    [some .cmpB, some .cmpC, some .cmpD, some .cmpE, some .cmpH, some .cmpL, some .cmpM, some .cmpA] := by decide

theorem test_decode_C0 : mapRow 0xC0 =
    [some .rnz, some .popB, some (.jnz 0x1234), some (.jmp 0x1234), some (.cnz 0x1234), some .pushB, some (.adi 0x34), some .rst0] := by decide

theorem test_decode_C8 : mapRow 0xC8 =
    [some .rz, some .ret, some (.jz 0x1234), none, some (.cz 0x1234), some (.call 0x1234), some (.aci 0x34), some .rst1] := by decide

theorem test_decode_D0 : mapRow 0xD0 =
    [some .rnc, some .popD, some (.jnc 0x1234), some (.outPort 0x34), some (.cnc 0x1234), some .pushD, some (.sui 0x34), some .rst2] := by decide

theorem test_decode_D8 : mapRow 0xD8 =
    [some .rc, none, some (.jc 0x1234), some (.inPort 0x34), some (.cc 0x1234), none, some (.sbi 0x34), some .rst3] := by decide

theorem test_decode_E0 : mapRow 0xE0 =
    [some .rpo, some .popH, some (.jpo 0x1234), some .xthl, some (.cpo 0x1234), some .pushH, some (.ani 0x34), some .rst4] := by decide

theorem test_decode_E8 : mapRow 0xE8 =
    [some .rpe, some .pchl, some (.jpe 0x1234), some .xchg, some (.cpe 0x1234), none, some (.xri 0x34), some .rst5] := by decide

theorem test_decode_F0 : mapRow 0xF0 =
    [some .rp, some .popPsw, some (.jp 0x1234), some .di, some (.cp 0x1234), some .pushPsw, some (.ori 0x34), some .rst6] := by decide

theorem test_decode_F8 : mapRow 0xF8 =
    [some .rm, some .sphl, some (.jm 0x1234), some .ei, some (.cm 0x1234), none, some (.cpi 0x34), some .rst7] := by decide

/-! ### One step of each kind of instruction

The vectors of 95_test_vectors.md sections 2.1 to 2.7, by their names there. -/

/-- The reset machine with code placed at an address and PC there. -/
def codeAt (pc : Nat) (bytes : List Byte) : State :=
  { State.reset.writeBytes pc bytes with pc := BitVec.ofNat 16 pc }

/-- The reset machine with code placed at 0. -/
def code (bytes : List Byte) : State := codeAt 0 bytes

/-- MEM_SIZE = 0x1000, as the fault vectors have it. -/
def smallMem : Config := { Config.default with memSize := 0x1000 }

/-- The state after one step; a step always answers next. -/
def stepped (s : State) : State :=
  match step s with
  | .next t => t
  | .fault _ | .refused _ => s

/-- V-D1. -/
theorem test_mov_b_c :
    let t := stepped { code [0x41] with b := 0x12, c := 0x34 }
    t.b = 0x34 ∧ t.c = 0x34 ∧ t.f = 0x00 := by decide

/-- V-D3. -/
theorem test_mov_a_m :
    let t := stepped { ((code [0x7E]).writeBytes 0x2000 [0x5A]) with h := 0x20 }
    t.a = 0x5A := by decide

/-- V-D4. -/
theorem test_mov_h_m :
    let t := stepped { ((code [0x66]).writeBytes 0x2000 [0x77]) with h := 0x20 }
    t.h = 0x77 ∧ t.l = 0x00 := by decide

/-- V-D5. -/
theorem test_mov_m_h :
    let t := stepped { code [0x74] with h := 0x20 }
    t.readByte 0x2000 = 0x20 := by decide

/-- V-D6. -/
theorem test_mvi_m :
    let t := stepped { code [0x36, 0xFF] with h := 0x20, l := 0x01 }
    t.readByte 0x2001 = 0xFF := by decide

/-- V-D7. -/
theorem test_lxi_sp :
    let t := stepped (code [0x31, 0x00, 0xC0])
    t.sp = 0xC000 := by decide

/-- V-D8. -/
theorem test_lxi_b :
    let t := stepped (code [0x01, 0x34, 0x12])
    t.b = 0x12 ∧ t.c = 0x34 := by decide

/-- V-D9. -/
theorem test_lda :
    let t := stepped (((code [0x3A, 0x50, 0x20]).writeBytes 0x2050 [0x7C]))
    t.a = 0x7C := by decide

/-- V-D10. -/
theorem test_lhld :
    let t := stepped (((code [0x2A, 0x00, 0x20]).writeBytes 0x2000 [0x83, 0xFF]))
    t.l = 0x83 ∧ t.h = 0xFF := by decide

/-- V-D11. -/
theorem test_shld :
    let t := stepped { code [0x22, 0x00, 0x30] with h := 0x12, l := 0x34 }
    t.readByte 0x3000 = 0x34 ∧ t.readByte 0x3001 = 0x12 := by decide

/-- V-D12. -/
theorem test_shld_wraps :
    let t := stepped { code [0x22, 0xFF, 0xFF] with h := 0x12, l := 0x34 }
    t.readByte 0xFFFF = 0x34 ∧ t.readByte 0x0000 = 0x12 := by decide

/-- V-D13. -/
theorem test_lhld_wraps :
    let t := stepped ((((codeAt 0x100 [0x2A, 0xFF, 0xFF]).writeBytes 0x0000 [0xAB]).writeBytes 0xFFFF [0xCD]))
    t.l = 0xCD ∧ t.h = 0xAB := by decide

/-- V-D14. -/
theorem test_ldax_b :
    let t := stepped { ((code [0x0A]).writeBytes 0x2000 [0x42]) with b := 0x20 }
    t.a = 0x42 := by decide

/-- V-D15. -/
theorem test_stax_d :
    let t := stepped { code [0x12] with d := 0x21, a := 0x99 }
    t.readByte 0x2100 = 0x99 := by decide

/-- V-D16. -/
theorem test_xchg :
    let t := stepped { code [0xEB] with d := 0x11, e := 0x22, h := 0x33, l := 0x44 }
    t.d = 0x33 ∧ t.e = 0x44 ∧ t.h = 0x11 ∧ t.l = 0x22 := by decide

/-- V-A1. -/
theorem test_add_b :
    let t := stepped { code [0x80] with a := 0xFF, b := 0x01 }
    t.a = 0x00 ∧ t.f = 0x55 := by decide

/-- V-A2. -/
theorem test_add_m :
    let t := stepped { ((code [0x86]).writeBytes 0x2000 [0x45]) with a := 0x38, h := 0x20 }
    t.a = 0x7D ∧ t.f = 0x04 := by decide

/-- V-A3. -/
theorem test_adi :
    let t := stepped { code [0xC6, 0x01] with a := 0x0F }
    t.a = 0x10 ∧ t.f = 0x10 := by decide

/-- V-A4. -/
theorem test_add_a :
    let t := stepped { code [0x87] with a := 0x80 }
    t.a = 0x00 ∧ t.f = 0x45 := by decide

/-- V-A5. -/
theorem test_adc_c :
    let t := stepped { code [0x89] with a := 0x3D, c := 0x42, f := 0x01 }
    t.a = 0x80 ∧ t.f = 0x90 := by decide

/-- V-A6. -/
theorem test_adc_m :
    let t := stepped { ((code [0x8E]).writeBytes 0x2000 [0xFE]) with a := 0x01, h := 0x20, f := 0x01 }
    t.a = 0x00 ∧ t.f = 0x55 := by decide

/-- V-A7. -/
theorem test_aci :
    let t := stepped { code [0xCE, 0x00] with a := 0xFF, f := 0x01 }
    t.a = 0x00 ∧ t.f = 0x55 := by decide

/-- V-A8. -/
theorem test_sub_b :
    let t := stepped { code [0x90] with a := 0x10, b := 0x01 }
    t.a = 0x0F ∧ t.f = 0x04 := by decide

/-- V-A9. -/
theorem test_sub_a :
    let t := stepped { code [0x97] with a := 0x5A }
    t.a = 0x00 ∧ t.f = 0x54 := by decide

/-- V-A10. -/
theorem test_sub_b_zero :
    let t := stepped { code [0x90] with a := 0x77 }
    t.a = 0x77 ∧ t.f = 0x14 := by decide

/-- V-A11. -/
theorem test_sub_m :
    let t := stepped { ((code [0x96]).writeBytes 0x2000 [0x01]) with h := 0x20 }
    t.a = 0xFF ∧ t.f = 0x85 := by decide

/-- V-A12. -/
theorem test_sui :
    let t := stepped { code [0xD6, 0x01] with a := 0x09 }
    t.a = 0x08 ∧ t.f = 0x10 := by decide

/-- V-A18. -/
theorem test_sui_ff :
    let t := stepped { code [0xD6, 0xFF] with a := 0x34 }
    t.a = 0x35 ∧ t.f = 0x05 := by decide

/-- V-A13. -/
theorem test_sbb_l :
    let t := stepped { code [0x9D] with a := 0x04, l := 0x02, f := 0x01 }
    t.a = 0x01 ∧ t.f = 0x10 := by decide

/-- V-A14. -/
theorem test_sbb_a_borrow :
    let t := stepped { code [0x9F] with a := 0x37, f := 0x01 }
    t.a = 0xFF ∧ t.f = 0x85 := by decide

/-- V-A15. -/
theorem test_sbb_a :
    let t := stepped { code [0x9F] with a := 0x37 }
    t.a = 0x00 ∧ t.f = 0x54 := by decide

/-- V-A16. -/
theorem test_sbi_ff :
    let t := stepped { code [0xDE, 0xFF] with a := 0x77, f := 0x01 }
    t.a = 0x77 ∧ t.f = 0x05 := by decide

/-- V-A17. -/
theorem test_sbi :
    let t := stepped (code [0xDE, 0x01])
    t.a = 0xFF ∧ t.f = 0x85 := by decide

/-- V-A19. -/
theorem test_inr_b :
    let t := stepped { code [0x04] with b := 0x0F, f := 0x01 }
    t.b = 0x10 ∧ t.f = 0x11 := by decide

/-- V-A20. -/
theorem test_inr_a :
    let t := stepped { code [0x3C] with a := 0xFF }
    t.a = 0x00 ∧ t.f = 0x54 := by decide

/-- V-A21. -/
theorem test_inr_d :
    let t := stepped { code [0x14] with d := 0x7F }
    t.d = 0x80 ∧ t.f = 0x90 := by decide

/-- V-A22. -/
theorem test_dcr_c :
    let t := stepped { code [0x0D] with c := 0x01, f := 0x01 }
    t.c = 0x00 ∧ t.f = 0x55 := by decide

/-- V-A23. -/
theorem test_dcr_e :
    let t := stepped (code [0x1D])
    t.e = 0xFF ∧ t.f = 0x84 := by decide

/-- V-A24. -/
theorem test_dcr_m :
    let t := stepped { ((code [0x35]).writeBytes 0x2000 [0x10]) with h := 0x20 }
    t.readByte 0x2000 = 0x0F ∧ t.f = 0x04 := by decide

/-- V-A25. -/
theorem test_inr_m :
    let t := stepped { ((code [0x34]).writeBytes 0x2000 [0xFF]) with h := 0x20 }
    t.readByte 0x2000 = 0x00 ∧ t.f = 0x54 := by decide

/-- V-A26. -/
theorem test_inx_h :
    let t := stepped { code [0x23] with h := 0xFF, l := 0xFF }
    t.h = 0x00 ∧ t.l = 0x00 ∧ t.f = 0x00 := by decide

/-- V-A27. -/
theorem test_dcx_d :
    let t := stepped (code [0x1B])
    t.d = 0xFF ∧ t.e = 0xFF := by decide

/-- V-A28. -/
theorem test_inx_sp :
    let t := stepped { code [0x33] with sp := 0xFFFF }
    t.sp = 0x0000 := by decide

/-- V-A29. -/
theorem test_dad_d :
    let t := stepped { code [0x19] with h := 0xFF, l := 0x83, e := 0x7D }
    t.h = 0x00 ∧ t.l = 0x00 ∧ t.f = 0x01 := by decide

/-- V-A30. -/
theorem test_dad_h :
    let t := stepped { code [0x29] with h := 0x80, f := 0x01 }
    t.h = 0x00 ∧ t.l = 0x00 ∧ t.f = 0x01 := by decide

/-- V-A31. -/
theorem test_dad_sp :
    let t := stepped { code [0x39] with h := 0x10, sp := 0x2000, f := 0x01 }
    t.h = 0x30 ∧ t.l = 0x00 ∧ t.f = 0x00 := by decide

/-- V-A33. -/
theorem test_daa_9a :
    let t := stepped { code [0x27] with a := 0x9A }
    t.a = 0x00 ∧ t.f = 0x55 := by decide

/-- V-A34. -/
theorem test_daa_flags_in :
    let t := stepped { code [0x27] with f := 0x11 }
    t.a = 0x66 ∧ t.f = 0x05 := by decide

/-- V-L1. -/
theorem test_ana_b :
    let t := stepped { code [0xA0] with a := 0xF0, b := 0x3C, f := 0x11 }
    t.a = 0x30 ∧ t.f = 0x04 := by decide

/-- V-L2. -/
theorem test_ana_m :
    let t := stepped { ((code [0xA6]).writeBytes 0x2000 [0xF0]) with a := 0x0F, h := 0x20 }
    t.a = 0x00 ∧ t.f = 0x44 := by decide

/-- V-L3. -/
theorem test_ani :
    let t := stepped { code [0xE6, 0x03] with a := 0x03 }
    t.a = 0x03 ∧ t.f = 0x04 := by decide

/-- V-L4. -/
theorem test_ana_a :
    let t := stepped { code [0xA7] with a := 0x5A, f := 0x01 }
    t.a = 0x5A ∧ t.f = 0x04 := by decide

/-- V-L5. -/
theorem test_xra_b :
    let t := stepped { code [0xA8] with a := 0x5C, b := 0x78 }
    t.a = 0x24 ∧ t.f = 0x04 := by decide

/-- V-L6. -/
theorem test_xra_a :
    let t := stepped { code [0xAF] with a := 0xC3, f := 0x01 }
    t.a = 0x00 ∧ t.f = 0x44 := by decide

/-- V-L7. -/
theorem test_xri :
    let t := stepped { code [0xEE, 0x81] with a := 0x3B }
    t.a = 0xBA ∧ t.f = 0x80 := by decide

/-- V-L8. -/
theorem test_ora_c :
    let t := stepped { code [0xB1] with a := 0x33, c := 0x0F }
    t.a = 0x3F ∧ t.f = 0x04 := by decide

/-- V-L9. -/
theorem test_ori :
    let t := stepped { code [0xF6, 0x80] with a := 0x01 }
    t.a = 0x81 ∧ t.f = 0x84 := by decide

/-- V-L10. -/
theorem test_cmp_e :
    let t := stepped { code [0xBB] with a := 0x0A, e := 0x05 }
    t.a = 0x0A ∧ t.f = 0x14 := by decide

/-- V-L11. -/
theorem test_cmp_m :
    let t := stepped { ((code [0xBE]).writeBytes 0x2000 [0x05]) with a := 0x02, h := 0x20 }
    t.a = 0x02 ∧ t.f = 0x81 := by decide

/-- V-L12. -/
theorem test_cpi :
    let t := stepped { code [0xFE, 0x40] with a := 0x4A }
    t.a = 0x4A ∧ t.f = 0x14 := by decide

/-- V-L13. -/
theorem test_cmp_a :
    let t := stepped { code [0xBF] with a := 0x77 }
    t.a = 0x77 ∧ t.f = 0x54 := by decide

/-- V-L14. -/
theorem test_rlc :
    let t := stepped { code [0x07] with a := 0xF2 }
    t.a = 0xE5 ∧ t.f = 0x01 := by decide

/-- V-L15. -/
theorem test_rrc :
    let t := stepped { code [0x0F] with a := 0xF2, f := 0x01 }
    t.a = 0x79 ∧ t.f = 0x00 := by decide

/-- V-L16. -/
theorem test_ral :
    let t := stepped { code [0x17] with a := 0xB5 }
    t.a = 0x6A ∧ t.f = 0x01 := by decide

/-- V-L17. -/
theorem test_rar :
    let t := stepped { code [0x1F] with a := 0x6A, f := 0x01 }
    t.a = 0xB5 ∧ t.f = 0x00 := by decide

/-- V-L18. -/
theorem test_rlc_keeps_flags :
    let t := stepped { code [0x07] with a := 0x80, f := 0x54 }
    t.a = 0x01 ∧ t.f = 0x55 := by decide

/-- V-L19. -/
theorem test_cma :
    let t := stepped { code [0x2F] with a := 0x51, f := 0x55 }
    t.a = 0xAE ∧ t.f = 0x55 := by decide

/-- V-L20. -/
theorem test_cmc :
    let t := stepped { code [0x3F] with f := 0x55 }
    t.f = 0x54 := by decide

/-- V-L21. -/
theorem test_stc :
    let t := stepped (code [0x37])
    t.f = 0x01 := by decide

/-- V-B1. -/
theorem test_jmp :
    let t := stepped (code [0xC3, 0x00, 0x01])
    t.pc = 0x0100 := by decide

/-- V-B2. -/
theorem test_jnz_taken :
    let t := stepped (codeAt 0x0006 [0xC2, 0x04, 0x00])
    t.pc = 0x0004 := by decide

/-- V-B3. -/
theorem test_jnz_not_taken :
    let t := stepped { codeAt 0x0006 [0xC2, 0x04, 0x00] with f := 0x40 }
    t.pc = 0x0009 := by decide

/-- V-B4. -/
theorem test_jpe :
    let t := stepped { code [0xEA, 0x34, 0x12] with f := 0x04 }
    t.pc = 0x1234 := by decide

/-- V-B5. -/
theorem test_jp :
    let t := stepped { code [0xF2, 0x34, 0x12] with f := 0x80 }
    t.pc = 0x0003 := by decide

/-- V-B6. -/
theorem test_call :
    let t := stepped { codeAt 0x0003 [0xCD, 0x08, 0x00] with sp := 0xC000 }
    t.pc = 0x0008 ∧ t.sp = 0xBFFE ∧ t.readByte 0xBFFE = 0x06 ∧ t.readByte 0xBFFF = 0x00 := by decide

/-- V-B7. -/
theorem test_cc_taken :
    let t := stepped { codeAt 0x0100 [0xDC, 0x00, 0x30] with sp := 0x2000, f := 0x01 }
    t.pc = 0x3000 ∧ t.sp = 0x1FFE ∧ t.readByte 0x1FFE = 0x03 ∧ t.readByte 0x1FFF = 0x01 := by decide

/-- V-B8. -/
theorem test_cc_not_taken :
    let t := stepped { codeAt 0x0100 [0xDC, 0x00, 0x30] with sp := 0x2000 }
    t.pc = 0x0103 ∧ t.sp = 0x2000 := by decide

/-- V-B9. -/
theorem test_ret :
    let t := stepped { ((code [0xC9]).writeBytes 0xBFFE [0x06]) with sp := 0xBFFE }
    t.pc = 0x0006 ∧ t.sp = 0xC000 := by decide

/-- V-B10. -/
theorem test_ret_wraps :
    let t := stepped { (((codeAt 0x0050 [0xC9]).writeBytes 0xFFFF [0x34]).writeBytes 0x0000 [0x12]) with sp := 0xFFFF }
    t.pc = 0x1234 ∧ t.sp = 0x0001 := by decide

/-- V-B11. -/
theorem test_rm_taken :
    let t := stepped { ((codeAt 0x0050 [0xF8]).writeBytes 0x1FFE [0x03, 0x01]) with sp := 0x1FFE, f := 0x80 }
    t.pc = 0x0103 ∧ t.sp = 0x2000 := by decide

/-- V-B12. -/
theorem test_rm_not_taken :
    let t := stepped { codeAt 0x0050 [0xF8] with sp := 0x1FFE }
    t.pc = 0x0051 ∧ t.sp = 0x1FFE := by decide

/-- V-B13. -/
theorem test_rst_1 :
    let t := stepped { codeAt 0x0200 [0xCF] with sp := 0x3000 }
    t.pc = 0x0008 ∧ t.sp = 0x2FFE ∧ t.readByte 0x2FFE = 0x01 ∧ t.readByte 0x2FFF = 0x02 := by decide

/-- V-B14. -/
theorem test_rst_7_wraps :
    let t := stepped (code [0xFF])
    t.pc = 0x0038 ∧ t.sp = 0xFFFE ∧ t.readByte 0xFFFE = 0x01 ∧ t.readByte 0xFFFF = 0x00 := by decide

/-- V-B15. -/
theorem test_pchl :
    let t := stepped { code [0xE9] with h := 0x12, l := 0x34 }
    t.pc = 0x1234 ∧ t.h = 0x12 ∧ t.l = 0x34 := by decide

/-- V-S1. -/
theorem test_push_b :
    let t := stepped { code [0xC5] with b := 0x12, c := 0x34, sp := 0x3000 }
    t.readByte 0x2FFF = 0x12 ∧ t.readByte 0x2FFE = 0x34 ∧ t.sp = 0x2FFE := by decide

/-- V-S2. -/
theorem test_push_b_wraps :
    let t := stepped { code [0xC5] with b := 0x12, c := 0x34 }
    t.readByte 0xFFFF = 0x12 ∧ t.readByte 0xFFFE = 0x34 ∧ t.sp = 0xFFFE := by decide

/-- V-S3. -/
theorem test_push_psw :
    let t := stepped { code [0xF5] with a := 0x83, f := 0x55, sp := 0x3000 }
    t.readByte 0x2FFF = 0x83 ∧ t.readByte 0x2FFE = 0x55 ∧ t.sp = 0x2FFE := by decide

/-- V-S4. -/
theorem test_pop_d :
    let t := stepped { ((code [0xD1]).writeBytes 0x2FFE [0x34, 0x12]) with sp := 0x2FFE }
    t.d = 0x12 ∧ t.e = 0x34 ∧ t.sp = 0x3000 := by decide

/-- V-S5. -/
theorem test_pop_psw :
    let t := stepped { ((code [0xF1]).writeBytes 0x2FFE [0xD7, 0x01]) with sp := 0x2FFE }
    t.a = 0x01 ∧ t.f = 0xD7 ∧ t.sp = 0x3000 := by decide

/-- V-S6. -/
theorem test_xthl :
    let t := stepped { ((code [0xE3]).writeBytes 0x2FFE [0x34, 0x12]) with h := 0xAB, l := 0xCD, sp := 0x2FFE }
    t.h = 0x12 ∧ t.l = 0x34 ∧ t.readByte 0x2FFE = 0xCD ∧ t.readByte 0x2FFF = 0xAB ∧ t.sp = 0x2FFE := by decide

/-- V-S7. -/
theorem test_sphl :
    let t := stepped { code [0xF9] with h := 0x40 }
    t.sp = 0x4000 := by decide

/-- V-S8. -/
theorem test_in :
    let t := stepped { code [0xDB, 0x00] with a := 0x55, hostIn := [0x41] }
    t.a = 0x41 ∧ t.events = [.inHook 0x00] ∧ t.status = .running := by decide

/-- V-S9. -/
theorem test_out :
    let t := stepped { code [0xD3, 0x01] with a := 0x41 }
    t.events = [.outHook 0x01 0x41] ∧ t.a = 0x41 := by decide

/-- V-S10. -/
theorem test_rim :
    let t := stepped { code [0x20] with a := 0x55 }
    t.a = 0x55 ∧ t.events = [.diagnostic 0x20] ∧ t.pc = 0x0001 := by decide

/-- V-S11. -/
theorem test_ei :
    let t := stepped (code [0xFB])
    t.events = [.diagnostic 0xFB] ∧ t.pc = 0x0001 := by decide

/-- V-S11. -/
theorem test_di :
    let t := stepped (code [0xF3])
    t.events = [.diagnostic 0xF3] ∧ t.pc = 0x0001 := by decide

/-- V-S11. -/
theorem test_sim :
    let t := stepped (code [0x30])
    t.events = [.diagnostic 0x30] ∧ t.pc = 0x0001 := by decide

/-- V-S12. -/
theorem test_hlt :
    let t := stepped (codeAt 0x0006 [0x76])
    t.pc = 0x0007 ∧ t.status = .halted := by decide

/-- V-S13. -/
theorem test_hlt_wraps :
    let t := stepped (codeAt 0xFFFF [0x76])
    t.pc = 0x0000 ∧ t.status = .halted := by decide

/-- V-S14. -/
theorem test_nop :
    let t := stepped (codeAt 0x0010 [0x00])
    t.pc = 0x0011 := by decide

/-- V-E1. -/
theorem test_operand_fetch_wraps :
    let t := stepped (((codeAt 0xFFFF [0x3E]).writeBytes 0x0000 [0x99]))
    t.a = 0x99 ∧ t.pc = 0x0001 := by decide

/-- V-E4. -/
theorem test_mvi_m_over_own_operand :
    let t := stepped { codeAt 0x0003 [0x36, 0x55] with l := 0x04 }
    t.readByte 0x0004 = 0x55 ∧ t.pc = 0x0005 := by decide

/-- V-F1. -/
theorem test_illegal_08 :
    let t := stepped (code [0x08])
    t.status = .faulted (.illegalOpcode 0x08) 0x0000 ∧ t.pc = 0x0000 := by decide

/-- V-F3. -/
theorem test_lda_out_of_range :
    let t := stepped { codeAt 0x0002 [0x3A, 0x00, 0x20] with cfg := smallMem, a := 0x11 }
    t.a = 0x11 ∧ t.status = .faulted (.memoryOutOfRange 0x2000) 0x0002 ∧ t.pc = 0x0002 := by decide

/-- V-F5. -/
theorem test_fetch_out_of_range :
    let t := stepped { codeAt 0x0FFF [0x3E] with cfg := smallMem }
    t.a = 0x00 ∧ t.status = .faulted (.memoryOutOfRange 0x1000) 0x0FFF := by decide

/-! ### The controller

Vectors of 95_test_vectors.md section 4, each by one action. -/

/-- B1: a step that arrives at a breakpoint stops there, paused, before the instruction at it. -/
theorem test_breakpoint_stops :
    let t := stepped { code [0x3E, 0x05, 0x76] with breakpoints := [0x0002] }
    t.pc = 0x0002 ∧ t.status = .paused ∧ t.paused = true ∧ t.a = 0x05 := by decide

/-- B5: HLT is reported before a breakpoint at the address after it (60_exceptions.md R232). -/
theorem test_halt_before_breakpoint :
    let t := stepped { code [0x76] with breakpoints := [0x0001] }
    t.pc = 0x0001 ∧ t.status = .halted ∧ t.paused = false := by decide

/-- B6. -/
theorem test_continue_not_paused :
    (match continueCommand 1 State.reset with
      | .callerError => true
      | .ran _ => false) = true := by decide

/-- B7. -/
theorem test_add_breakpoint_again :
    State.addBreakpoint { State.reset with breakpoints := [0x0009] } 0x0009 =
      ({ State.reset with breakpoints := [0x0009] }, true) := by decide

/-- B8. -/
theorem test_remove_absent_breakpoint :
    (State.removeBreakpoint { State.reset with breakpoints := [0x0009] } 0x1234).2 = false := by decide

/-- B9. -/
theorem test_add_breakpoint_full :
    (State.addBreakpoint
      { State.reset with breakpoints := [0x0009], cfg := { Config.default with bpCapacity := 1 } } 0x000C).2 =
        false := by decide

/-- B10. -/
theorem test_list_breakpoints_in_order :
    ((State.reset.addBreakpoint 0x0009).1.addBreakpoint 0x0004).1.listBreakpoints = [0x0009, 0x0004] := by decide

/-- R233: a paused engine at a breakpoint executes the instruction there, and continue() runs to the next breakpoint. -/
theorem test_continue_runs_to_the_next_breakpoint :
    continueCommand 9 { code [0x3C, 0x3C, 0x3C, 0x76] with
        status := .paused, paused := true, breakpoints := [0x0000, 0x0002] } =
      .ran (.next { code [0x3C, 0x3C, 0x3C, 0x76] with
        a := 0x02, pc := 0x0002, status := .paused, paused := true, breakpoints := [0x0000, 0x0002] }) := rfl

/-- R231, R238: step() at HLT leaves the engine Halted and not paused, with PC after it. -/
theorem test_step_at_hlt_halts :
    stepCommand 9 { code [0x76] with status := .paused, paused := true } =
      .ran (.next { code [0x76] with pc := 0x0001, status := .halted }) := rfl

/-! ### Where the next instruction is placed -/

/-- withFetchWord places a word where the next step fetches it, here LXI SP,C000h in the first state. -/
theorem test_with_fetch_word :
    (stepped (State.reset.withFetchWord 24 0xC00031)).sp = 0xC000 ∧
    (State.reset.withFetchWord 24 0xC00031).fetch = .ok { instr := .lxiSp 0xC000, next := 0x0003 } := by decide

/-! ### States that meet the hypotheses of the obligations

One theorem for each obligation that has hypotheses; where an obligation has several clauses, each at a boundary. -/

/-- Every pointer at the top of memory. -/
def top : State :=
  { State.reset with b := 0xFF, c := 0xFF, d := 0xFF, e := 0xFF, h := 0xFF, l := 0xFF, sp := 0xFFFF }

/-- Every pointer at the first address that does not exist, MEM_SIZE being 0x1000. -/
def beyond : State :=
  { State.reset with b := 0x10, d := 0x10, h := 0x10, sp := 0x1000, cfg := smallMem }

/-- Every pointer at the last address that exists, MEM_SIZE being 0x1000. -/
def last : State :=
  { State.reset with b := 0x0F, c := 0xFF, d := 0x0F, e := 0xFF, h := 0x0F, l := 0xFF, sp := 0x0FFF, cfg := smallMem }

/-- The same machine, paused. -/
def pausedAt (s : State) : State := { s with status := .paused, paused := true }

theorem all_one {s : State} {a : Word} (h : s.hasByte a) : ∀ w ∈ [a], s.hasByte w :=
  fun _ hw => List.mem_singleton.mp hw ▸ h

theorem missing_first {s : State} {a : Word} {rest : List Word} (h : ¬ s.hasByte a) :
    FirstMissingIs s (a :: rest) a := ⟨[], rest, rfl, fun _ hw => (nomatch hw), h⟩

theorem missing_second {s : State} {a b : Word} (ha : s.hasByte a) (hb : ¬ s.hasByte b) :
    FirstMissingIs s [a, b] b := ⟨[a], [], rfl, all_one ha, hb⟩

theorem witness_EncodeOfDecodeIsTheBytes : decode [0x3E, 0x99, 0x76] = .ok (.mviA 0x99, [0x76]) := rfl

theorem witness_LengthIsAFunctionOfTheOpcode :
    encode .nop = 0x00 :: [] ∧ encode (.cpi 0xFF) = 0xFE :: [0xFF] ∧ encode (.cm 0xFFFF) = 0xFC :: [0xFF, 0xFF] :=
  ⟨rfl, rfl, rfl⟩

/-- Running on, at a breakpoint, across the top of memory, and into a fault. -/
theorem witness_StepRunsTheDecodedInstruction :
    (∃ rest, (code [0x3E, 0x99]).active ∧
      decode [(code [0x3E, 0x99]).readByte 0x0000, (code [0x3E, 0x99]).readByte 0x0001,
        (code [0x3E, 0x99]).readByte 0x0002] = .ok (.mviA 0x99, rest) ∧
      ∀ k < (encode (.mviA 0x99)).length, (code [0x3E, 0x99]).hasByte (0x0000 + BitVec.ofNat 16 k)) ∧
    (let s : State := { code [0x00] with breakpoints := [0x0001], status := .running }
     s.active ∧ decode [s.readByte s.pc, s.readByte (s.pc + 1), s.readByte (s.pc + 2)] = .ok (.nop, [0x00, 0x00]) ∧
     ∀ k < (encode .nop).length, s.hasByte (s.pc + BitVec.ofNat 16 k)) ∧
    (let s := codeAt 0xFFFF [0x3E]
     s.active ∧ decode [s.readByte s.pc, s.readByte (s.pc + 1), s.readByte (s.pc + 2)] = .ok (.mviA 0x00, [0x00]) ∧
     ∀ k < (encode (.mviA 0x00)).length, s.hasByte (s.pc + BitVec.ofNat 16 k)) ∧
    (let s : State := { codeAt 0x0FFF [0x7E] with h := 0x10, cfg := smallMem }
     s.active ∧ decode [s.readByte s.pc, s.readByte (s.pc + 1), s.readByte (s.pc + 2)] = .ok (.movAM, [0x00, 0x00]) ∧
     (∀ k < (encode .movAM).length, s.hasByte (s.pc + BitVec.ofNat 16 k)) ∧
     exec .movAM { s with pc := 0x1000, status := .running } = .fault (.memoryOutOfRange 0x1000)) :=
  ⟨⟨[0x00], .inl rfl, rfl, by decide⟩, ⟨.inr rfl, rfl, by decide⟩, ⟨.inl rfl, rfl, by decide⟩,
    ⟨.inl rfl, rfl, by decide, rfl⟩⟩

theorem witness_HaltedOrFaultedEngineTakesNoStep :
    ({ State.reset with status := .halted } : State).status = .halted ∧
    ∃ reason pc0, ({ State.reset with status := .faulted (.illegalOpcode 0x08) 0x0000 } : State).status =
      .faulted reason pc0 := ⟨rfl, _, _, rfl⟩

/-- A fault taken in the step, and one taken before. -/
theorem witness_FaultsArePrecise :
    (∃ t, step (code [0x08]) = .next t ∧ t.status = .faulted (.illegalOpcode 0x08) 0x0000) ∧
    ∃ t, step { State.reset with status := .faulted (.illegalOpcode 0x08) 0x0000 } = .next t ∧
      t.status = .faulted (.illegalOpcode 0x08) 0x0000 := ⟨⟨_, rfl, rfl⟩, _, rfl, rfl⟩

/-- The opcode byte just beyond memory, an illegal opcode in the last byte, byte 2 beyond memory for a length of 2 and
of 3, and byte 3 beyond memory. -/
theorem witness_FetchFaultsInOrder :
    (let s : State := { codeAt 0x1000 [] with cfg := smallMem }
     s.active ∧ ¬ s.hasByte s.pc) ∧
    (let s : State := { codeAt 0x0FFF [0x08] with cfg := smallMem }
     s.active ∧ s.hasByte s.pc ∧
       s.readByte s.pc ∈ ([0x08, 0x10, 0x18, 0x28, 0x38, 0xCB, 0xD9, 0xDD, 0xED, 0xFD] : List Byte)) ∧
    (let s : State := { codeAt 0x0FFF [0x3E] with cfg := smallMem }
     s.active ∧ s.hasByte s.pc ∧ encode (.mviA 0x00) = s.readByte s.pc :: [0x00] ∧ ¬ s.hasByte (s.pc + 1)) ∧
    (let s : State := { codeAt 0x0FFF [0xC3] with cfg := smallMem }
     s.active ∧ s.hasByte s.pc ∧ encode (.jmp 0x0000) = s.readByte s.pc :: [0x00, 0x00] ∧ ¬ s.hasByte (s.pc + 1)) ∧
    (let s : State := { codeAt 0x0FFE [0xC3] with cfg := smallMem }
     s.active ∧ s.hasByte s.pc ∧ encode (.jmp 0x0000) = s.readByte s.pc :: [0x00, 0x00] ∧ s.hasByte (s.pc + 1) ∧
       ¬ s.hasByte (s.pc + 2)) :=
  ⟨⟨.inl rfl, by decide⟩, ⟨.inl rfl, by decide, by decide⟩, ⟨.inl rfl, by decide, rfl, by decide⟩,
    ⟨.inl rfl, by decide, rfl, by decide⟩, ⟨.inl rfl, by decide, rfl, by decide, by decide⟩⟩

/-- The first address of two missing, and the second alone. -/
theorem witness_MissingDataAddressFaults :
    FirstMissingIs { beyond with sp := 0x2000 } (dataAddrs .pushB { beyond with sp := 0x2000 }) (0x2000 - 1) ∧
    FirstMissingIs last (dataAddrs .ret last) (last.sp + 1) :=
  ⟨missing_first (by decide), missing_second (by decide) (by decide)⟩

/-- With MEM_SIZE = 0x10000 every address exists; with 0x1000, MOV A,M has its byte with HL at the last address. -/
theorem witness_EveryInstructionAnswersWhenItsBytesExist :
    (∀ i, ∀ w ∈ dataAddrs i State.reset, State.reset.hasByte w) ∧
    ∀ w ∈ dataAddrs .movAM last, last.hasByte w := ⟨fun _ w _ => w.isLt, all_one (by decide)⟩

/-- A step that ends Faulted for another reason, and one that does not. -/
theorem witness_FullMemoryNeverFaultsOutOfRange :
    (code [0x08]).cfg.memSize = 0x10000 ∧ (code [0x08]).isFaulted = false ∧
    (∃ t, step (code [0x08]) = .next t) ∧ ∃ t, step (codeAt 0xFFFF [0x3E]) = .next t :=
  ⟨rfl, rfl, ⟨_, rfl⟩, _, rfl⟩

/-- A state that lists memory, with a breakpoint, at the next step's breakpoint. -/
theorem witness_StepKeepsTheInvariant :
    ({ code [0x77, 0x76] with h := 0xFF, l := 0xFF, a := 0x01, breakpoints := [0x0001] } : State).Inv ∧
    ∃ t, step { code [0x77, 0x76] with h := 0xFF, l := 0xFF, a := 0x01, breakpoints := [0x0001] } = .next t :=
  ⟨by decide, _, rfl⟩

/-- An image in the last byte; a paused engine, single-stepped and continued to HLT. -/
theorem witness_HostActionsKeepTheInvariant :
    (code [0x76]).Inv ∧ (∃ t, (code [0x76]).loadImage { start := 0xFFFF, bytes := [0x76] } = some t) ∧
    (∃ t, iterate true (code [0x76]) = .next t) ∧ (∃ t, run 2 true (code [0x00, 0x76]) = .next t) ∧
    (∃ t, execFrom 2 0x0000 (code [0x00, 0x76]) = .next t) ∧
    (pausedAt (code [0x00, 0x76])).Inv ∧ (∃ t, stepCommand 1 (pausedAt (code [0x00, 0x76])) = .ran (.next t)) ∧
    ∃ t, continueCommand 2 (pausedAt (code [0x00, 0x76])) = .ran (.next t) :=
  ⟨by decide, ⟨_, rfl⟩, ⟨_, rfl⟩, ⟨_, rfl⟩, ⟨_, rfl⟩, by decide, ⟨_, rfl⟩, _, rfl⟩

theorem witness_FlagBitsAreWrittenOnlyByTheirWriters :
    (∃ t, exec .inxB { State.reset with f := 0xFF } = .next t) ∧ ¬ MayWriteFlags .inxB ∧ Instr.inxB ≠ .popPsw := by
  refine ⟨⟨_, rfl⟩, ?_, by decide⟩
  rintro (⟨op, src, h⟩ | ⟨r, h⟩ | h | ⟨r, h⟩ | h | h | ⟨p, h⟩ | h | h | h | h | h | h | h)
  · cases op <;> rcases src with r | _ | d8 <;> first | cases h | (cases r <;> cases h)
  all_goals first | cases h | (cases r <;> cases h) | (cases p <;> cases h)

theorem witness_RegistersAreWrittenOnlyByTheirWriters :
    (∃ t, exec (.outPort 0x01) State.reset = .next t) ∧ ¬ MayWriteReg (.outPort 0x01) .a := by
  refine ⟨⟨_, rfl⟩, ?_⟩
  rintro (⟨src, h⟩ | h | ⟨d8, h⟩ | h | h | ⟨-, h⟩ | ⟨h, -⟩ | ⟨h, -⟩ | ⟨h, -⟩)
  · cases src <;> cases h
  · cases h
  · cases h
  · cases h
  · cases h
  · rcases h with ⟨_, h⟩ | h | h | ⟨op, src, -, h⟩ | h | h | h | h | h | h | h | ⟨_, h⟩
    case inr.inr.inr.inl => cases op <;> rcases src with r | _ | d8 <;> first | cases h | (cases r <;> cases h)
    all_goals cases h
  all_goals rcases h with h | h <;> cases h

theorem witness_PcAndSpAreWrittenOnlyByTheirWriters :
    (∃ t, exec .xthl { State.reset with sp := 0xFFFF } = .next t) ∧ ¬ MayTransfer .xthl ∧ ¬ MayWriteSp .xthl := by
  refine ⟨⟨_, rfl⟩, ?_, ?_⟩
  · rintro (⟨_, h⟩ | ⟨k, _, h⟩ | ⟨_, h⟩ | ⟨k, _, h⟩ | h | ⟨k, h⟩ | ⟨n, h⟩ | h)
    case inr.inr.inr.inr.inr.inr.inl => fin_cases n <;> cases h
    all_goals first | cases h | (cases k <;> cases h)
  · rintro (⟨_, h⟩ | h | h | h | ⟨p, h⟩ | ⟨p, h⟩ | ⟨_, h⟩ | ⟨k, _, h⟩ | h | ⟨k, h⟩ | ⟨n, h⟩)
    case inr.inr.inr.inr.inr.inr.inr.inr.inr.inr => fin_cases n <;> cases h
    all_goals first | cases h | (cases k <;> cases h) | (cases p <;> cases h)

/-- An instruction that reads memory and does not store, and one that stores two bytes across the top of memory. -/
theorem witness_MemoryChangesOnlyWhereInstructionsStore :
    (∃ t, exec .popB top = .next t) ∧ ¬ Stores .popB ∧ ∃ t, exec .xthl top = .next t := by
  refine ⟨⟨_, rfl⟩, ?_, ⟨_, rfl⟩⟩
  rintro (⟨r, h⟩ | ⟨_, h⟩ | h | h | ⟨_, h⟩ | h | h | ⟨_, h⟩ | ⟨p, h⟩ | ⟨_, h⟩ | ⟨k, _, h⟩ | ⟨n, h⟩ | h)
  case inr.inr.inr.inr.inr.inr.inr.inr.inr.inr.inr.inl => fin_cases n <;> cases h
  all_goals first | cases h | (cases r <;> cases h) | (cases p <;> cases h) | (cases k <;> cases h)

theorem witness_StepsKeepBreakpointsAndParameters :
    ∃ t, step { code [0x00] with breakpoints := [0x0001] } = .next t := ⟨_, rfl⟩

theorem witness_EventsAreAppendedByTheirInstructions :
    (∃ t, step (code [0xD3, 0x01]) = .next t) ∧ (∃ t, exec .nop State.reset = .next t) ∧ ¬ MaySignalHost .nop := by
  refine ⟨⟨_, rfl⟩, ⟨_, rfl⟩, ?_⟩
  rintro (⟨_, h⟩ | ⟨_, h⟩ | h | h | h | h) <;> cases h

/-- HL at the top of memory, and just beyond it. -/
theorem witness_MovReadsTheByteAtHL :
    top.hasByte (pair top.h top.l) ∧ FirstMissingIs beyond [pair beyond.h beyond.l] (pair beyond.h beyond.l) :=
  ⟨by decide, missing_first (by decide)⟩

theorem witness_OneByteStoresWriteTheirByte :
    Memory.wf top.mem ∧ top.hasByte 0xFFFF ∧
    (∃ src : Reg8, Instr.movMB = .movToM src ∧ ([0x70] : List Byte) = [0b01110#5 ++ src.code] ∧
      0xFFFF = pair top.h top.l ∧ (0xFF : Byte) = top.reg src) ∧
    (∃ d8, Instr.mviM 0xFF = .mviM d8 ∧ ([0x36, 0xFF] : List Byte) = [0x36, d8] ∧ 0xFFFF = pair top.h top.l) ∧
    (∃ a16, Instr.sta 0xFFFF = .sta a16 ∧ ([0x32, 0xFF, 0xFF] : List Byte) = [0x32, lo a16, hi a16] ∧
      0xFFFF = a16) ∧
    0xFFFF = pair top.b top.c ∧ 0xFFFF = pair top.d top.e ∧
    FirstMissingIs beyond [pair beyond.b beyond.c] (pair beyond.b beyond.c) :=
  ⟨by decide, by decide, ⟨.b, rfl, rfl, rfl, rfl⟩, ⟨_, rfl, rfl, rfl⟩, ⟨_, rfl, rfl, rfl⟩, rfl, rfl,
    missing_first (by decide)⟩

theorem witness_AccumulatorLoadsReadTheirByte :
    (∃ a16, Instr.lda 0xFFFF = .lda a16 ∧ ([0x3A, 0xFF, 0xFF] : List Byte) = [0x3A, lo a16, hi a16] ∧
      0xFFFF = a16) ∧
    0xFFFF = pair top.b top.c ∧ 0xFFFF = pair top.d top.e ∧ top.hasByte 0xFFFF ∧
    FirstMissingIs beyond [0x1000] 0x1000 :=
  ⟨⟨_, rfl, rfl, rfl⟩, rfl, rfl, by decide, missing_first (by decide)⟩

/-- The two bytes on either side of the top of memory, and the second one missing. -/
theorem witness_LhldLoadsLThenH :
    top.hasByte 0xFFFF ∧ top.hasByte (0xFFFF + 1) ∧ FirstMissingIs last [0x0FFF, 0x0FFF + 1] (0x0FFF + 1) :=
  ⟨by decide, by decide, missing_second (by decide) (by decide)⟩

theorem witness_ShldStoresLThenH :
    Memory.wf top.mem ∧ top.hasByte 0xFFFF ∧ top.hasByte (0xFFFF + 1) ∧
    FirstMissingIs last [0x0FFF, 0x0FFF + 1] (0x0FFF + 1) :=
  ⟨by decide, by decide, by decide, missing_second (by decide) (by decide)⟩

/-- Each operation with each operand form, and M just beyond memory. -/
theorem witness_AdditionsAddAndSetFlags :
    (AluOp.add = .add ∧ false = false) ∧ (AluOp.adc = .adc ∧ true = State.flag { top with f := 0x01 } .cy) ∧
    (∀ w ∈ top.operandAccess .mem, top.hasByte w) ∧ (∀ w ∈ top.operandAccess (.reg .a), top.hasByte w) ∧
    (∀ w ∈ top.operandAccess (.imm 0xFF), top.hasByte w) ∧
    FirstMissingIs beyond (beyond.operandAccess .mem) beyond.hl :=
  ⟨⟨rfl, rfl⟩, ⟨rfl, rfl⟩, all_one (by decide), fun _ hw => (nomatch hw), fun _ hw => (nomatch hw), missing_first (by decide)⟩

theorem witness_SubtractionsSubtractAndSetFlags :
    (AluOp.sub = .sub ∧ false = false) ∧ (AluOp.sbb = .sbb ∧ true = State.flag { top with f := 0x01 } .cy) ∧
    (∀ w ∈ top.operandAccess .mem, top.hasByte w) ∧ FirstMissingIs beyond (beyond.operandAccess .mem) beyond.hl :=
  ⟨⟨rfl, rfl⟩, ⟨rfl, rfl⟩, all_one (by decide), missing_first (by decide)⟩

theorem witness_ComparesSetFlagsAndKeepA :
    (∀ w ∈ top.operandAccess .mem, top.hasByte w) ∧ FirstMissingIs beyond (beyond.operandAccess .mem) beyond.hl :=
  ⟨all_one (by decide), missing_first (by decide)⟩

theorem witness_LogicalOperationsClearCarries :
    (AluOp.ana = .ana ∧ (0x00 : Byte) = top.a &&& top.operandValue (.reg .b)) ∧
    (AluOp.xra = .xra ∧ (0xFF : Byte) = top.a ^^^ top.operandValue (.reg .b)) ∧
    (AluOp.ora = .ora ∧ (0xFF : Byte) = top.a ||| top.operandValue (.reg .b)) ∧
    (∀ w ∈ top.operandAccess .mem, top.hasByte w) ∧ FirstMissingIs beyond (beyond.operandAccess .mem) beyond.hl :=
  ⟨⟨rfl, rfl⟩, ⟨rfl, rfl⟩, ⟨rfl, rfl⟩, all_one (by decide), missing_first (by decide)⟩

theorem witness_IncrementsKeepCarry :
    Memory.wf top.mem ∧ top.hasByte top.hl ∧ FirstMissingIs beyond [beyond.hl] beyond.hl :=
  ⟨by decide, by decide, missing_first (by decide)⟩

theorem witness_DecrementsKeepCarry :
    Memory.wf last.mem ∧ last.hasByte last.hl ∧ FirstMissingIs beyond [beyond.hl] beyond.hl :=
  ⟨by decide, by decide, missing_first (by decide)⟩

theorem witness_InxAndDcxWriteNoFlag : Pair.hl ≠ .sp := by decide

/-- The low digit at 9 and at A, and a carry out of the low correction. -/
theorem witness_DaaAdjustsInTwoSteps :
    (∃ low, low = (0x99 : Byte).toNat + (if (0x99 : Byte).toNat % 16 > 9 ∨ false = true then 6 else 0)) ∧
    (∃ s : State, s.a = 0x9A ∧
      0xA0 = s.a.toNat + (if s.a.toNat % 16 > 9 ∨ s.flag .ac = true then 6 else 0)) ∧
    ∃ s : State, s.a = 0xFF ∧ s.flag .ac = true ∧
      0x105 = s.a.toNat + (if s.a.toNat % 16 > 9 ∨ s.flag .ac = true then 6 else 0) :=
  ⟨⟨_, rfl⟩, ⟨{ State.reset with a := 0x9A }, rfl, rfl⟩, { State.reset with a := 0xFF, f := 0x10 }, rfl, rfl, rfl⟩

theorem witness_RotatesMoveBitsAndWriteCarryOnly :
    let s : State := { State.reset with a := 0x80, f := 0x01 }
    (Instr.rlc = .rlc ∧ true = s.a.getLsbD 7) ∧ (Instr.rrc = .rrc ∧ false = s.a.getLsbD 0) ∧
    (Instr.ral = .ral ∧ true = s.flag .cy) ∧ (Instr.rar = .rar ∧ true = s.flag .cy) ∧
    true = s.a.getLsbD (if true then 7 else 0) ∧ false = s.a.getLsbD (if false then 7 else 0) := by decide

/-- A taken CALL, Cccc and RST with the two stack bytes at the top of memory, and with one of them missing. -/
theorem witness_TakenCallsPushPcnAndJump :
    (∃ k a16, Instr.cz 0x1234 = .ccc k a16 ∧
      ([0xCC, 0x34, 0x12] : List Byte) = [0b11#2 ++ k.code ++ 0b100#3, lo a16, hi a16] ∧ 0x1234 = a16 ∧
      State.flag { State.reset with f := 0x40 } (condTests k).1 = (condTests k).2) ∧
    (∃ n : Fin 8, Instr.rst7 = .rst n ∧ ([0xFF] : List Byte) = [0b11#2 ++ BitVec.ofFin (w := 3) n ++ 0b111#3] ∧
      0x0038 = BitVec.ofNat 16 (n.val * 8)) ∧
    Memory.wf State.reset.mem ∧ State.reset.hasByte (State.reset.sp - 1) ∧ State.reset.hasByte (State.reset.sp - 2) ∧
    FirstMissingIs { beyond with sp := 0x1001 } [0x1001 - 1, 0x1001 - 2] (0x1001 - 1) :=
  ⟨⟨.z, 0x1234, rfl, rfl, rfl, rfl⟩, ⟨7, rfl, rfl, rfl⟩, by decide, by decide, by decide,
    missing_first (by decide)⟩

theorem witness_TakenReturnsPopPc :
    (∃ k, Instr.rm = .rcc k ∧ (0xF8 : Byte) = 0b11#2 ++ k.code ++ 0b000#3 ∧
      State.flag { top with f := 0x80 } (condTests k).1 = (condTests k).2) ∧
    top.hasByte top.sp ∧ top.hasByte (top.sp + 1) ∧ FirstMissingIs last [last.sp, last.sp + 1] (last.sp + 1) :=
  ⟨⟨.m, rfl, rfl, rfl⟩, by decide, by decide, missing_second (by decide) (by decide)⟩

theorem witness_UntakenCallsAndReturnsDoNothing :
    State.reset.flag (condTests .z).1 ≠ (condTests .z).2 ∧
    State.flag { beyond with sp := 0xFFFF, f := 0x80 } (condTests .p).1 ≠ (condTests .p).2 := by decide

theorem witness_PushStoresThePair :
    (StackPair.bc = .bc ∧ top.b = top.b ∧ top.c = top.c) ∧ (StackPair.psw = .psw ∧ top.a = top.a ∧ top.f = top.f) ∧
    Memory.wf State.reset.mem ∧ State.reset.hasByte (State.reset.sp - 1) ∧ State.reset.hasByte (State.reset.sp - 2) ∧
    FirstMissingIs { beyond with sp := 0x1001 } [0x1001 - 1, 0x1001 - 2] (0x1001 - 1) :=
  ⟨⟨rfl, rfl, rfl⟩, ⟨rfl, rfl, rfl⟩, by decide, by decide, by decide, missing_first (by decide)⟩

theorem witness_PopLoadsThePair :
    top.hasByte top.sp ∧ top.hasByte (top.sp + 1) ∧ FirstMissingIs last [last.sp, last.sp + 1] (last.sp + 1) :=
  ⟨by decide, by decide, missing_second (by decide) (by decide)⟩

theorem witness_XthlExchangesTheStackTop :
    Memory.wf top.mem ∧ top.hasByte top.sp ∧ top.hasByte (top.sp + 1) ∧
    FirstMissingIs last [last.sp, last.sp + 1] (last.sp + 1) :=
  ⟨by decide, by decide, by decide, missing_second (by decide) (by decide)⟩

theorem witness_PopUndoesPush :
    Memory.wf (code [0x76]).mem ∧ (code [0x76]).hasByte (State.reset.sp - 1) ∧
    (code [0x76]).hasByte (State.reset.sp - 2) := by decide

/-- A callee that changes A, F and PC. -/
theorem witness_RetReturnsFromCall :
    Memory.wf beyond.mem ∧ beyond.hasByte (beyond.sp - 1) ∧ beyond.hasByte (beyond.sp - 2) ∧
    ∃ t, exec (.call 0x0008) beyond = .next t ∧
      ∃ u : State, u = { t with a := 0xFF, f := 0xFF, pc := 0x0009 } ∧ u.sp = t.sp ∧ MemKept t u ∧ u.cfg = t.cfg :=
  ⟨by decide, by decide, by decide, _, rfl, _, rfl, rfl, fun _ => rfl, rfl⟩

/-- V-E2: STA 0005h with PCn = 5 and A = 76 (HLT); STA into the last operand byte of a JMP; PUSH PSW of an MVI's two
bytes at the wrap of SP; a taken CZ whose target is its own stack bytes. -/
theorem witness_StoresAreSeenByTheNextFetch :
    (let s : State := { State.reset with a := 0x76, pc := 0x0005 }
     let bytes : List (Word × Byte) := [(0x0005, 0x76)]
     StoresBytes (.sta 0x0005) s bytes ∧ Memory.wf s.mem ∧ (∀ b ∈ bytes, s.hasByte b.1) ∧
     ∀ k < (encode .hlt).length, s.hasByte (s.pc + BitVec.ofNat 16 k) ∧
       (encode .hlt)[k]? = some (byteAfter s bytes (s.pc + BitVec.ofNat 16 k))) ∧
    (let s : State := { codeAt 0xFFFE [0xC3, 0x34] with a := 0x12 }
     let bytes : List (Word × Byte) := [(0x0000, 0x12)]
     StoresBytes (.sta 0x0000) s bytes ∧ Memory.wf s.mem ∧ (∀ b ∈ bytes, s.hasByte b.1) ∧
     ∀ k < (encode (.jmp 0x1234)).length, s.hasByte (s.pc + BitVec.ofNat 16 k) ∧
       (encode (.jmp 0x1234))[k]? = some (byteAfter s bytes (s.pc + BitVec.ofNat 16 k))) ∧
    (let s : State := { State.reset with a := 0x99, f := 0x3E, sp := 0x0001, pc := 0xFFFF }
     let bytes : List (Word × Byte) := [(0x0000, 0x99), (0xFFFF, 0x3E)]
     StoresBytes .pushPsw s bytes ∧ Memory.wf s.mem ∧ (∀ b ∈ bytes, s.hasByte b.1) ∧
     ∀ k < (encode (.mviA 0x99)).length, s.hasByte (s.pc + BitVec.ofNat 16 k) ∧
       (encode (.mviA 0x99))[k]? = some (byteAfter s bytes (s.pc + BitVec.ofNat 16 k))) ∧
    (let s : State := { State.reset with f := 0x40, sp := 0x1002, pc := 0x7676 }
     let bytes : List (Word × Byte) := [(0x1001, 0x76), (0x1000, 0x76)]
     StoresBytes (.cz 0x1000) s bytes ∧ Memory.wf s.mem ∧ (∀ b ∈ bytes, s.hasByte b.1) ∧
     ∃ t, exec (.cz 0x1000) s = .next t ∧ ∀ k < (encode .hlt).length, s.hasByte (t.pc + BitVec.ofNat 16 k) ∧
       (encode .hlt)[k]? = some (byteAfter s bytes (t.pc + BitVec.ofNat 16 k))) :=
  ⟨⟨.inr (.inr (.inr (.inr (.inl ⟨_, rfl, rfl⟩)))), by decide, fun b _ => b.1.isLt, by decide⟩,
    ⟨.inr (.inr (.inr (.inr (.inl ⟨_, rfl, rfl⟩)))), by decide, fun b _ => b.1.isLt, by decide⟩,
    ⟨.inr (.inr (.inr (.inr (.inr (.inr (.inr (.inr (.inl ⟨.psw, rfl, rfl⟩)))))))), by decide, fun b _ => b.1.isLt, by decide⟩,
    ⟨.inr (.inr (.inr (.inr (.inr (.inr (.inr (.inr (.inr (.inr (.inl ⟨.z, _, rfl, rfl, rfl⟩)))))))))), by decide,
      fun b _ => b.1.isLt, _, rfl, by decide⟩⟩

theorem witness_InTakesTheHostsAnswer : ({ State.reset with hostIn := [0x41] } : State).hostIn = 0x41 :: [] := rfl

theorem witness_InWaitsUntilTheHostAnswers :
    State.reset.hostIn = [] ∧ ({ State.reset with breakpoints := [0x0000] } : State).hostIn = [] := ⟨rfl, rfl⟩

theorem witness_OutAndUnimplementedOpcodesOnlySignal :
    (∃ port, Instr.outPort 0xFF = .outPort port ∧ ([0xD3, 0xFF] : List Byte) = [0xD3, port] ∧
      HostEvent.outHook 0xFF 0xFF = .outHook port 0xFF) ∧
    (Instr.ei = .ei ∧ ([0xFB] : List Byte) = [0xFB] ∧ HostEvent.diagnostic 0xFB = .diagnostic 0xFB) :=
  ⟨⟨_, rfl, rfl, rfl⟩, rfl, rfl, rfl⟩

/-- HLT in the last byte of memory with a breakpoint at the address after it; NOP with none there. -/
theorem witness_HltStopsAndNopAdvances :
    (let s : State := { codeAt 0xFFFF [0x76] with breakpoints := [0x0000] }
     s.active ∧ s.hasByte s.pc ∧ s.readByte s.pc = 0x76) ∧
    (State.reset.active ∧ State.reset.hasByte State.reset.pc ∧ State.reset.readByte State.reset.pc = 0x00 ∧
      State.reset.pc + 1 ∉ State.reset.breakpoints) :=
  ⟨⟨.inl rfl, by decide, by decide⟩, .inl rfl, by decide, by decide, by decide⟩

/-- The set full, one short of full, and with the address at the front and at the end. -/
theorem witness_BreakpointFunctions :
    let s : State := { State.reset with breakpoints := [0x0004, 0x0009], cfg := { Config.default with bpCapacity := 2 } }
    0x0004 ∈ s.listBreakpoints ∧ (0x0001 ∉ s.listBreakpoints ∧ s.listBreakpoints.length ≥ s.cfg.bpCapacity) ∧
    (0x0001 ∉ State.reset.listBreakpoints ∧ State.reset.listBreakpoints.length < State.reset.cfg.bpCapacity) ∧
    (s.listBreakpoints = [] ++ 0x0004 :: [0x0009] ∧ 0x0004 ∉ ([] : List Word)) ∧
    (s.listBreakpoints = [0x0004] ++ 0x0009 :: [] ∧ 0x0009 ∉ ([0x0004] : List Word)) := by decide

/-- B4, at a breakpoint: an engine that is not paused; a paused one at a byte that does not exist, at an instruction
whose data address does not, at HLT, at IN, and at an instruction that completes at a breakpoint and off one. -/
theorem witness_StepAndContinueOfAPausedEngine :
    State.reset.paused = false ∧
    (let s := pausedAt { State.reset with pc := 0x1000, cfg := smallMem }
     s.paused = true ∧ s.status = .paused ∧ s.fetch = .error (.memoryOutOfRange 0x1000)) ∧
    (let s := pausedAt { code [0x7E] with h := 0x10, cfg := smallMem }
     s.paused = true ∧ s.status = .paused ∧ s.fetch = .ok { instr := .movAM, next := 0x0001 } ∧
     exec .movAM { s with pc := 0x0001, status := .running, paused := false } = .fault (.memoryOutOfRange 0x1000)) ∧
    (let s := pausedAt (codeAt 0xFFFF [0x76])
     s.paused = true ∧ s.status = .paused ∧ s.fetch = .ok { instr := .hlt, next := 0x0000 }) ∧
    (let s := pausedAt (code [0xDB, 0x07])
     s.paused = true ∧ s.status = .paused ∧ s.fetch = .ok { instr := .inPort 0x07, next := 0x0002 } ∧
     s.hostIn = []) ∧
    ∀ bps ∈ ([[0x0000], [0x0001]] : List (List Word)),
     let s := pausedAt { code [0x3C] with breakpoints := bps }
     s.paused = true ∧ s.status = .paused ∧ s.fetch = .ok { instr := .inrA, next := 0x0001 } ∧
     ∃ u, exec .inrA { s with pc := 0x0001, status := .running, paused := false } = .next u ∧ u.status = .running := by
  refine ⟨rfl, ⟨rfl, rfl, rfl⟩, ⟨rfl, rfl, rfl, rfl⟩, ⟨rfl, rfl, rfl⟩, ⟨rfl, rfl, rfl, rfl⟩, fun bps h => ?_⟩
  simp only [List.mem_cons, List.not_mem_nil, or_false] at h
  rcases h with rfl | rfl <;> exact ⟨rfl, rfl, rfl, _, rfl, rfl⟩

theorem witness_RunsAreRepeatedSteps :
    (pausedAt (code [0x3C, 0x76])).paused = true ∧ (pausedAt (code [0x3C, 0x76])).status = .paused := ⟨rfl, rfl⟩

end Sys2Proof.Tests
end

section
/-! The lengths of the encodings: R72's lists read off the opcode's format. -/
namespace Sys2Proof

/-- The opcodes of length 2 (30_encoding.md R72). -/
theorem opFormat_eq_i2_iff : ∀ op : Byte, opFormat op = some .i2 ↔ op ∈ twoByteOpcodes := by decide

/-- The opcodes of length 3 (30_encoding.md R72). -/
theorem opFormat_eq_i3_iff : ∀ op : Byte, opFormat op = some .i3 ↔ op ∈ threeByteOpcodes := by decide

theorem Format.length_eq_two_iff (fmt : Format) : fmt.length = 2 ↔ fmt = .i2 := by
  cases fmt <;> decide

theorem Format.length_eq_three_iff (fmt : Format) : fmt.length = 3 ↔ fmt = .i3 := by
  cases fmt <;> decide

theorem Format.length_le_three (fmt : Format) : fmt.length ≤ 3 := by
  cases fmt <;> decide

/-- An encoding has one operand byte exactly when its opcode is of length 2. -/
theorem one_operand_iff {i : Instr} {op : Byte} {operands : List Byte} (h : encode i = op :: operands) :
    operands.length = 1 ↔ op ∈ twoByteOpcodes := by
  obtain ⟨fmt, hfmt, hlen⟩ := format_of_encode h
  rw [← opFormat_eq_i2_iff, hfmt, Option.some_inj, ← fmt.length_eq_two_iff]
  omega

/-- An encoding has two operand bytes exactly when its opcode is of length 3. -/
theorem two_operands_iff {i : Instr} {op : Byte} {operands : List Byte} (h : encode i = op :: operands) :
    operands.length = 2 ↔ op ∈ threeByteOpcodes := by
  obtain ⟨fmt, hfmt, hlen⟩ := format_of_encode h
  rw [← opFormat_eq_i3_iff, hfmt, Option.some_inj, ← fmt.length_eq_three_iff]
  omega

theorem operands_length_le_two {i : Instr} {op : Byte} {operands : List Byte} (h : encode i = op :: operands) :
    operands.length ≤ 2 := by
  obtain ⟨fmt, -, hlen⟩ := format_of_encode h
  have := fmt.length_le_three
  omega

/-- Settles O4: the opcode's format has the length of the encoding, and R72's lists say which opcodes have which
format. -/
theorem lengthIsAFunctionOfTheOpcode : Obligations.LengthIsAFunctionOfTheOpcode :=
  fun _ _ _ h => ⟨one_operand_iff h, two_operands_iff h, operands_length_le_two h⟩

end Sys2Proof
end

section
/-! Frames: what the named writes of the state leave unchanged, and how an instruction whose whole meaning is one
checked access faults or completes. -/
namespace Sys2Proof

/-- The registers a pair is made of; SP is no general register (10_state.md R20, R23). -/
def Pair.halves : Pair → List Reg8
  | .bc => [.b, .c]
  | .de => [.d, .e]
  | .hl => [.h, .l]
  | .sp => []

namespace Machine

/-! ### Frames weaken and compose -/

theorem KeptExcept.mono {rs rs' : List Reg8} {fls : List Flag} {s t : State} (hrs : rs ⊆ rs')
    (h : KeptExcept rs fls s t) : KeptExcept rs' fls s t :=
  ⟨fun r hr => h.1 r fun hm => hr (hrs hm), h.2⟩

theorem KeptExcept.trans {rs : List Reg8} {fls : List Flag} {s t u : State} (hst : KeptExcept rs fls s t)
    (htu : KeptExcept rs fls t u) : KeptExcept rs fls s u := by
  obtain ⟨hreg, hflag, ⟨hstatus, hpaused, hbps, hcfg⟩, hin, hev⟩ := hst
  obtain ⟨hreg', hflag', ⟨hstatus', hpaused', hbps', hcfg'⟩, hin', hev'⟩ := htu
  exact ⟨fun r hr => (hreg' r hr).trans (hreg r hr), fun k hk => (hflag' k hk).trans (hflag k hk),
    ⟨hstatus'.trans hstatus, hpaused'.trans hpaused, hbps'.trans hbps, hcfg'.trans hcfg⟩,
    hin'.trans hin, hev'.trans hev⟩

/-! ### The frame of each write -/

theorem keptExcept_setReg (s : State) (r : Reg8) (v : Byte) : KeptExcept [r] [] s (s.setReg r v) := by
  refine ⟨fun q hq => ?_, fun _ _ => by simp, by simp [EngineKept], by simp [HostKept]⟩
  rw [reg_setReg, if_neg (List.mem_singleton.not.mp hq)]

theorem memKept_setReg (s : State) (r : Reg8) (v : Byte) : MemKept s (s.setReg r v) := fun _ => by simp

theorem reg_setPair_of_notMem {s : State} {p : Pair} {v : Word} {q : Reg8} (h : q ∉ p.halves) :
    (s.setPair p v).reg q = s.reg q := by
  revert h
  cases p <;> cases q <;> simp [Pair.halves, State.reg]

theorem keptExcept_setPair (s : State) (p : Pair) (v : Word) : KeptExcept p.halves [] s (s.setPair p v) :=
  ⟨fun _ => reg_setPair_of_notMem, fun _ _ => by simp, by simp [EngineKept], by simp [HostKept]⟩

theorem memKept_setPair (s : State) (p : Pair) (v : Word) : MemKept s (s.setPair p v) := fun _ => by simp

theorem keptExcept_writeByte (s : State) (addr : Word) (v : Byte) : KeptExcept [] [] s (s.writeByte addr v) :=
  ⟨fun r _ => writeByte_reg s addr v r, fun _ _ => rfl, ⟨rfl, rfl, rfl, rfl⟩, rfl, rfl⟩

theorem memKeptOutside_writeByte (s : State) (addr : Word) (v : Byte) :
    MemKeptOutside [addr] s (s.writeByte addr v) :=
  fun _ hk => Memory.read_write_of_ne (hk addr (List.mem_singleton_self addr))

theorem keptExcept_writeWord (s : State) (addr v : Word) : KeptExcept [] [] s (s.writeWord addr v) :=
  (keptExcept_writeByte s addr (lo v)).trans (keptExcept_writeByte _ (addr + 1) (hi v))

/-! ### Instructions that are one checked access -/

theorem hasByte_of_mem_pair {s : State} {x y : Word} (hx : s.hasByte x) (hy : s.hasByte y) :
    ∀ w ∈ [x, y], s.hasByte w :=
  List.forall_mem_cons.mpr ⟨hx, List.forall_mem_singleton.mpr hy⟩

theorem faultsOnMissing_of_access {i : Instr} {s : State} {addrs : List Word} {effect : Result}
    (he : exec i s = s.access addrs effect) : FaultsOnMissing i s addrs :=
  fun _ hm => he.trans (access_of_missing hm)

theorem exec_eq_effect_of_hasBytes {i : Instr} {s : State} {addrs : List Word} {effect : Result}
    (he : exec i s = s.access addrs effect) (hb : ∀ w ∈ addrs, s.hasByte w) : exec i s = effect :=
  he.trans (access_of_hasBytes hb)

end Machine

end Sys2Proof
end

section
/-! Data transfer (40_data_transfer.md): the encodings of its families, the loads and stores of one byte, and the
obligations. -/
namespace Sys2Proof

/-! ### Encodings by code fields (30_encoding.md R73 to R75) -/

theorem encode_movReg (dst src : Reg8) : encode (.movReg dst src) = [0b01#2 ++ dst.code ++ src.code] := by
  cases dst <;> cases src <;> rfl

theorem encode_movFromM (dst : Reg8) : encode (.movFromM dst) = [0b01#2 ++ dst.code ++ 0b110#3] := by
  cases dst <;> rfl

theorem encode_movToM (src : Reg8) : encode (.movToM src) = [0b01110#5 ++ src.code] := by
  cases src <;> rfl

theorem encode_mviReg (dst : Reg8) (d8 : Byte) :
    encode (.mviReg dst d8) = [0b00#2 ++ dst.code ++ 0b110#3, d8] := by
  cases dst <;> rfl

theorem encode_lxi (p : Pair) (byte2 byte3 : Byte) :
    encode (.lxi p (pair byte3 byte2)) = [0b00#2 ++ p.code ++ 0b0001#4, byte2, byte3] := by
  have hfields : encode (.lxi p (pair byte3 byte2)) =
      [0b00#2 ++ p.code ++ 0b0001#4, lo (pair byte3 byte2), hi (pair byte3 byte2)] := by cases p <;> rfl
  rw [hfields, lo_pair, hi_pair]

namespace Machine

/-! ### Loads and stores of one byte -/

/-- An instruction that writes one register completes with nothing else changed. -/
theorem completes_of_setReg {i : Instr} {s : State} {dst : Reg8} {v : Byte}
    (he : exec i s = .next (s.setReg dst v)) :
    ∃ t, exec i s = .next t ∧ t.reg dst = v ∧
      t.sp = s.sp ∧ t.pc = s.pc ∧ MemKept s t ∧ KeptExcept [dst] [] s t :=
  ⟨_, he, by simp, setReg_sp s dst v, setReg_pc s dst v, memKept_setReg s dst v, keptExcept_setReg s dst v⟩

/-- An instruction that loads one register from one checked address (R101, R106, R110). -/
theorem loads_of_access {i : Instr} {s : State} {dst : Reg8} {addr : Word}
    (he : exec i s = s.access [addr] (.next (s.setReg dst (s.readByte addr)))) :
    FaultsOnMissing i s [addr] ∧
    (s.hasByte addr →
      ∃ t, exec i s = .next t ∧ t.reg dst = s.readByte addr ∧
        t.sp = s.sp ∧ t.pc = s.pc ∧ MemKept s t ∧ KeptExcept [dst] [] s t) :=
  ⟨faultsOnMissing_of_access he,
    fun hb => completes_of_setReg (exec_eq_effect_of_hasBytes he (List.forall_mem_singleton.mpr hb))⟩

/-- An instruction that stores one byte at one checked address (R102, R104, R107, R111). -/
theorem stores_of_storeByte {i : Instr} {s : State} {addr : Word} {v : Byte}
    (he : exec i s = storeByte addr v s) :
    FaultsOnMissing i s [addr] ∧
    (Memory.wf s.mem → s.hasByte addr →
      ∃ t, exec i s = .next t ∧ t.readByte addr = v ∧ MemKeptOutside [addr] s t ∧
        t.sp = s.sp ∧ t.pc = s.pc ∧ KeptExcept [] [] s t) :=
  ⟨faultsOnMissing_of_access he, fun hm hb =>
    ⟨_, exec_eq_effect_of_hasBytes he (List.forall_mem_singleton.mpr hb), writeByte_readByte_same hm,
      memKeptOutside_writeByte s addr v, rfl, rfl, keptExcept_writeByte s addr v⟩⟩

end Machine

open Machine

/-! ### The obligations -/

/-- Settles O24: MOV is one register write. -/
theorem movCopiesARegister : Obligations.MovCopiesARegister :=
  fun dst src s => ⟨encode_movReg dst src, completes_of_setReg (exec_movReg dst src s)⟩

/-- Settles O25: the address and the byte are those of the state before the register is written. -/
theorem movReadsTheByteAtHL : Obligations.MovReadsTheByteAtHL :=
  fun dst s => ⟨encode_movFromM dst, loads_of_access (exec_movFromM dst s)⟩

/-- Settles O26: each of the forms is storeByte at its address. -/
theorem oneByteStoresWriteTheirByte : Obligations.OneByteStoresWriteTheirByte := by
  rintro i bytes addr v s (⟨src, rfl, rfl, rfl, rfl⟩ | ⟨d8, rfl, rfl, rfl, rfl⟩ | ⟨a16, rfl, rfl, rfl, rfl⟩ |
    ⟨rfl, rfl, rfl, rfl⟩ | ⟨rfl, rfl, rfl, rfl⟩)
  · exact ⟨encode_movToM src, stores_of_storeByte (exec_movToM src s)⟩
  · exact ⟨rfl, stores_of_storeByte (exec_mviM _ s)⟩
  · exact ⟨rfl, stores_of_storeByte (exec_sta _ s)⟩
  · exact ⟨rfl, stores_of_storeByte (exec_staxB s)⟩
  · exact ⟨rfl, stores_of_storeByte (exec_staxD s)⟩

/-- Settles O27: MVI is one register write and LXI one pair write, whose halves are the two immediate bytes. -/
theorem immediateLoadsWriteTheirDestination : Obligations.ImmediateLoadsWriteTheirDestination := by
  refine ⟨fun dst d8 s => ⟨encode_mviReg dst d8, completes_of_setReg (exec_mviReg dst d8 s)⟩,
    fun byte2 byte3 s => ⟨fun p => encode_lxi p byte2 byte3, ?bc, ?de, ?hl, ?sp⟩⟩
  all_goals refine ⟨_, exec_lxi _ _ s, ?_⟩
  case bc => exact ⟨hi_pair _ _, lo_pair _ _, rfl, rfl, memKept_setPair s .bc _, keptExcept_setPair s .bc _⟩
  case de => exact ⟨hi_pair _ _, lo_pair _ _, rfl, rfl, memKept_setPair s .de _, keptExcept_setPair s .de _⟩
  case hl => exact ⟨hi_pair _ _, lo_pair _ _, rfl, rfl, memKept_setPair s .hl _, keptExcept_setPair s .hl _⟩
  case sp => exact ⟨rfl, rfl, memKept_setPair s .sp _, keptExcept_setPair s .sp _⟩

/-- Settles O28: each of the forms is loadAcc from its address. -/
theorem accumulatorLoadsReadTheirByte : Obligations.AccumulatorLoadsReadTheirByte := by
  rintro i bytes addr s (⟨a16, rfl, rfl, rfl⟩ | ⟨rfl, rfl, rfl⟩ | ⟨rfl, rfl, rfl⟩)
  · exact ⟨rfl, loads_of_access (exec_lda _ s)⟩
  · exact ⟨rfl, loads_of_access (exec_ldaxB s)⟩
  · exact ⟨rfl, loads_of_access (exec_ldaxD s)⟩

/-- Settles O29: the pair written to HL is the word at a16, whose low byte is at a16. -/
theorem lhldLoadsLThenH : Obligations.LhldLoadsLThenH := by
  intro a16 s
  refine ⟨rfl, faultsOnMissing_of_access (exec_lhld a16 s), fun hlow hhigh => ?_⟩
  exact ⟨_, exec_eq_effect_of_hasBytes (exec_lhld a16 s) (hasByte_of_mem_pair hlow hhigh), lo_pair _ _,
    hi_pair _ _, rfl, rfl, memKept_setPair s .hl _, keptExcept_setPair s .hl _⟩

/-- Settles O30: HL is written as a word, its low byte at a16. -/
theorem shldStoresLThenH : Obligations.ShldStoresLThenH := by
  intro a16 s
  refine ⟨rfl, faultsOnMissing_of_access (exec_shld a16 s), fun hm hlow hhigh => ?_⟩
  obtain ⟨hl, hh, hkept⟩ := writeWord_bytes (addr := a16) (v := s.hl) hm
  exact ⟨_, exec_eq_effect_of_hasBytes (exec_shld a16 s) (hasByte_of_mem_pair hlow hhigh), hl.trans (lo_pair s.h s.l),
    hh.trans (hi_pair s.h s.l), hkept, rfl, rfl, keptExcept_writeWord s a16 s.hl⟩

/-- Settles O31: XCHG is two pair writes and SPHL one. -/
theorem xchgAndSphlMovePairs : Obligations.XchgAndSphlMovePairs := by
  intro s
  refine ⟨rfl, ⟨_, exec_xchg s, hi_pair s.d s.e, lo_pair s.d s.e, hi_pair s.h s.l, lo_pair s.h s.l, rfl, rfl,
    fun _ => rfl, ?_⟩, rfl, _, exec_sphl s, rfl, rfl, memKept_setPair s .sp _, keptExcept_setPair s .sp _⟩
  exact ((keptExcept_setPair s .hl _).mono (by decide)).trans ((keptExcept_setPair _ .de _).mono (by decide))

end Sys2Proof
end

section
/-! Arithmetic (41_arithmetic.md): the frames of the flag writes, the encodings of its families, what an instruction
that writes a helper's result and flags completes with, and the obligations. -/
namespace Sys2Proof

/-! ### Encodings by code fields (30_encoding.md R73 to R75) -/

theorem encode_alu (op : AluOp) (src : Operand8) : encode (.alu op src) = op.bytes src := by
  rcases src with r | _ | d8
  · cases op <;> cases r <;> rfl
  · cases op <;> rfl
  · cases op <;> rfl

theorem encode_inrReg (r : Reg8) : encode (.inrReg r) = [0b00#2 ++ r.code ++ 0b100#3] := by
  cases r <;> rfl

theorem encode_inx (p : Pair) : encode (.inx p) = [0b00#2 ++ p.code ++ 0b0011#4] := by
  cases p <;> rfl

theorem encode_dcx (p : Pair) : encode (.dcx p) = [0b00#2 ++ p.code ++ 0b1011#4] := by
  cases p <;> rfl

theorem encode_dad (p : Pair) : encode (.dad p) = [0b00#2 ++ p.code ++ 0b1001#4] := by
  cases p <;> rfl

theorem pairRegs_eq_halves (p : Pair) : pairRegs p = p.halves := by
  cases p <;> rfl

namespace Machine

/-! ### Frames of the flag writes -/

theorem KeptExcept.mono_flags {rs : List Reg8} {fls fls' : List Flag} {s t : State} (hfls : fls ⊆ fls')
    (h : KeptExcept rs fls s t) : KeptExcept rs fls' s t := by
  obtain ⟨hreg, hflag, hengine, hhost⟩ := h
  exact ⟨hreg, fun k hk => hflag k fun hm => hk (List.map_subset flagBit hfls hm), hengine, hhost⟩

/-- Two changes one after the other change at most what either does. -/
theorem KeptExcept.trans_append {rs rs' : List Reg8} {fls fls' : List Flag} {s t u : State}
    (hst : KeptExcept rs fls s t) (htu : KeptExcept rs' fls' t u) : KeptExcept (rs ++ rs') (fls ++ fls') s u :=
  ((hst.mono (List.subset_append_left rs rs')).mono_flags (List.subset_append_left fls fls')).trans
    ((htu.mono (List.subset_append_right rs rs')).mono_flags (List.subset_append_right fls fls'))

theorem keptExcept_setFlag (s : State) (fl : Flag) (v : Bool) : KeptExcept [] [fl] s (s.setFlag fl v) :=
  ⟨fun r _ => setFlag_reg s fl v r, setFlag_bits s fl v, ⟨rfl, rfl, rfl, rfl⟩, rfl, rfl⟩

theorem keptExcept_setFlagsKeepCy (s : State) (r : AluResult) :
    KeptExcept [] [.s, .z, .ac, .p] s (s.setFlagsKeepCy r) :=
  ⟨fun q _ => setFlagsKeepCy_reg s r q, setFlagsKeepCy_bits s r, ⟨rfl, rfl, rfl, rfl⟩, rfl, rfl⟩

theorem keptExcept_setFlags (s : State) (r : AluResult) :
    KeptExcept [] [.s, .z, .ac, .p, .cy] s (s.setFlags r) :=
  ⟨fun q _ => setFlags_reg s r q, setFlags_bits s r, ⟨rfl, rfl, rfl, rfl⟩, rfl, rfl⟩

/-! ### S, Z and P of a result (R122) -/

theorem szpOf_setFlagsKeepCy (s : State) (res : Byte) (ac cy : Bool) :
    SzpOf res (s.setFlagsKeepCy (withSzp res ac cy)) := by
  obtain ⟨hs, hz, -, hp, -⟩ := flag_setFlagsKeepCy s (withSzp res ac cy)
  exact ⟨hs, hz, hp.trans (parityEven_eq_evenOnes res)⟩

theorem szpOf_setFlags (s : State) (res : Byte) (ac cy : Bool) :
    SzpOf res (s.setFlags (withSzp res ac cy)) := by
  obtain ⟨hs, hz, -, hp, -⟩ := flag_setFlags s (withSzp res ac cy)
  exact ⟨hs, hz, hp.trans (parityEven_eq_evenOnes res)⟩

/-- Adding 1 carries out of the low nibble exactly when it was F (R135). -/
theorem add8_one (x : Byte) :
    add8 x 1 false = withSzp (x + 1) (decide (x.toNat % 16 = 15)) (decide (x.toNat = 255)) := by
  have hres : BitVec.ofNat 8 (x.toNat + 1) = x + 1 := by bv_omega
  have hac : x.toNat % 16 + 1 > 15 ↔ x.toNat % 16 = 15 := by omega
  have hcy : x.toNat + 1 > 255 ↔ x.toNat = 255 := by have := x.isLt; omega
  simp [add8, hres, hac, hcy]

/-- INR writes the register plus 1, with AC exactly when its low nibble was F (R135). -/
theorem incrementReg_eq (r : Reg8) (s : State) :
    incrementReg r s = .next ((s.setReg r (s.reg r + 1)).setFlagsKeepCy
      (withSzp (s.reg r + 1) (decide ((s.reg r).toNat % 16 = 15)) (decide ((s.reg r).toNat = 255)))) := by
  rw [incrementReg, add8_one]
  rfl

/-- INR M writes the byte at HL plus 1, with AC exactly when its low nibble was F (R136). -/
theorem incrementM_eq (s : State) :
    incrementM s = s.access [s.hl] (.next ((s.writeByte s.hl (s.readByte s.hl + 1)).setFlagsKeepCy
      (withSzp (s.readByte s.hl + 1) (decide ((s.readByte s.hl).toNat % 16 = 15))
        (decide ((s.readByte s.hl).toNat = 255))))) := by
  rw [incrementM, add8_one]
  rfl

/-! ### Results and flags written -/

/-- An ALU instruction that writes A completes with its helper's result and flags, and nothing else changed. -/
theorem alu_completes {op : AluOp} {src : Operand8} {s : State} {res : Byte} {ac cy : Bool} (hop : op ≠ .cmp)
    (hr : aluResult op s.a (s.operandValue src) (s.flag .cy) = withSzp res ac cy)
    (hb : ∀ w ∈ s.operandAccess src, s.hasByte w) :
    ∃ t, exec (.alu op src) s = .next t ∧ t.a = res ∧ SzpOf t.a t ∧ t.flag .cy = cy ∧ t.flag .ac = ac ∧
      t.sp = s.sp ∧ t.pc = s.pc ∧ MemKept s t ∧ KeptExcept [.a] [.s, .z, .ac, .p, .cy] s t := by
  have he : exec (.alu op src) s = .next ((s.setReg .a res).setFlags (withSzp res ac cy)) := by
    rw [exec_eq_effect_of_hasBytes (exec_alu op src s) hb, hr, if_neg hop]
    rfl
  obtain ⟨-, -, hac, -, hcy⟩ := flag_setFlags (s.setReg .a res) (withSzp res ac cy)
  exact ⟨_, he, rfl, szpOf_setFlags _ res ac cy, hcy, hac, rfl, rfl, memKept_setReg s .a res,
    (keptExcept_setReg s .a res).trans_append (keptExcept_setFlags _ _)⟩

/-- An instruction that writes a result to a register, and S, Z, AC and P of it, completes with nothing else changed
(R135, R137). -/
theorem completes_of_setReg_setFlagsKeepCy {i : Instr} {s : State} {r : Reg8} {res : Byte} {ac cy : Bool}
    (he : exec i s = .next ((s.setReg r res).setFlagsKeepCy (withSzp res ac cy))) :
    ∃ t, exec i s = .next t ∧ t.reg r = res ∧ SzpOf (t.reg r) t ∧ t.flag .ac = ac ∧
      t.sp = s.sp ∧ t.pc = s.pc ∧ MemKept s t ∧ KeptExcept [r] [.s, .z, .ac, .p] s t := by
  have hreg : ((s.setReg r res).setFlagsKeepCy (withSzp res ac cy)).reg r = res := by simp
  obtain ⟨-, -, hac, -, -⟩ := flag_setFlagsKeepCy (s.setReg r res) (withSzp res ac cy)
  exact ⟨_, he, hreg, hreg.symm ▸ szpOf_setFlagsKeepCy _ res ac cy, hac, setReg_sp s r res, setReg_pc s r res,
    memKept_setReg s r res, (keptExcept_setReg s r res).trans_append (keptExcept_setFlagsKeepCy _ _)⟩

/-- An instruction that writes a result to a checked address, and S, Z, AC and P of it, faults where no byte exists
and else completes with nothing else changed (R136, R138). -/
theorem completes_of_writeByte_setFlagsKeepCy {i : Instr} {s : State} {addr : Word} {res : Byte} {ac cy : Bool}
    (he : exec i s = s.access [addr] (.next ((s.writeByte addr res).setFlagsKeepCy (withSzp res ac cy)))) :
    FaultsOnMissing i s [addr] ∧
    (Memory.wf s.mem → s.hasByte addr →
      ∃ t, exec i s = .next t ∧ t.readByte addr = res ∧ SzpOf (t.readByte addr) t ∧ t.flag .ac = ac ∧
        MemKeptOutside [addr] s t ∧ t.sp = s.sp ∧ t.pc = s.pc ∧ KeptExcept [] [.s, .z, .ac, .p] s t) := by
  refine ⟨faultsOnMissing_of_access he, fun hm hb => ?_⟩
  have hread : ((s.writeByte addr res).setFlagsKeepCy (withSzp res ac cy)).readByte addr = res :=
    writeByte_readByte_same hm
  obtain ⟨-, -, hac, -, -⟩ := flag_setFlagsKeepCy (s.writeByte addr res) (withSzp res ac cy)
  exact ⟨_, exec_eq_effect_of_hasBytes he (List.forall_mem_singleton.mpr hb), hread,
    hread.symm ▸ szpOf_setFlagsKeepCy _ res ac cy, hac, memKeptOutside_writeByte s addr res, rfl, rfl,
    (keptExcept_writeByte s addr res).trans_append (keptExcept_setFlagsKeepCy _ _)⟩

theorem setPair_sp_of_ne {p : Pair} (hp : p ≠ .sp) (s : State) (v : Word) : (s.setPair p v).sp = s.sp := by
  cases p with
  | sp => exact absurd rfl hp
  | bc | de | hl => rfl

/-- An instruction that writes one pair completes with nothing else changed (R139, R140). -/
theorem completes_of_setPair {i : Instr} {s : State} {p : Pair} {v : Word} (he : exec i s = .next (s.setPair p v)) :
    ∃ t, exec i s = .next t ∧ t.pairValue p = v ∧
      (p ≠ .sp → t.sp = s.sp) ∧ t.f = s.f ∧ t.pc = s.pc ∧ MemKept s t ∧ KeptExcept (pairRegs p) [] s t :=
  ⟨_, he, pairValue_setPair s p v, fun hp => setPair_sp_of_ne hp s v, setPair_f s p v, setPair_pc s p v,
    memKept_setPair s p v, pairRegs_eq_halves p ▸ keptExcept_setPair s p v⟩

/-- An instruction that writes HL and then CY completes with nothing else changed (R141). -/
theorem completes_of_setHL_setCarry {i : Instr} {s : State} {v : Word} {cy : Bool}
    (he : exec i s = .next ((s.setPair .hl v).setFlag .cy cy)) :
    ∃ t, exec i s = .next t ∧ pair t.h t.l = v ∧ t.flag .cy = cy ∧
      t.sp = s.sp ∧ t.pc = s.pc ∧ MemKept s t ∧ KeptExcept [.h, .l] [.cy] s t :=
  ⟨_, he, pair_hi_lo v, flag_setFlag _ .cy .cy cy, rfl, rfl, memKept_setPair s .hl v,
    (keptExcept_setPair s .hl v).trans_append (keptExcept_setFlag _ .cy cy)⟩

end Machine

open Machine

/-! ### The obligations -/

/-- Settles O32: both operations are add8 of A, the operand and the carry in. -/
theorem additionsAddAndSetFlags : Obligations.AdditionsAddAndSetFlags := by
  intro op cin src s hop
  have hr : aluResult op s.a (s.operandValue src) (s.flag .cy) = add8 s.a (s.operandValue src) cin := by
    obtain ⟨rfl, rfl⟩ | ⟨rfl, rfl⟩ := hop <;> rfl
  have hne : op ≠ .cmp := by
    obtain ⟨rfl, -⟩ | ⟨rfl, -⟩ := hop <;> decide
  refine ⟨encode_alu op src, faultsOnMissing_of_access (exec_alu op src s), fun hb => ?_⟩
  obtain ⟨t, he, ha, hrest⟩ := alu_completes hne hr hb
  exact ⟨t, he, ha ▸ BitVec.toNat_ofNat _ 8, hrest⟩

/-- Settles O36: INR writes the result and the flags of add8 with 1, to a register or to the byte at HL. -/
theorem incrementsKeepCarry : Obligations.IncrementsKeepCarry :=
  fun s => ⟨fun r => ⟨encode_inrReg r,
      completes_of_setReg_setFlagsKeepCy ((exec_inrReg r s).trans (incrementReg_eq r s))⟩,
    rfl, completes_of_writeByte_setFlagsKeepCy ((exec_inrM s).trans (incrementM_eq s))⟩

/-- Settles O38: INX and DCX are one pair write each; subtracting 1 is adding 65535 modulo 2^16. -/
theorem inxAndDcxWriteNoFlag : Obligations.InxAndDcxWriteNoFlag := by
  intro p s
  refine ⟨encode_inx p, encode_dcx p, ?inx, ?dcx⟩
  case inx =>
    obtain ⟨t, he, hv, hrest⟩ := completes_of_setPair (exec_inx p s)
    exact ⟨t, he, hv ▸ BitVec.toNat_add _ 1, hrest⟩
  case dcx =>
    obtain ⟨t, he, hv, hrest⟩ := completes_of_setPair (exec_dcx p s)
    exact ⟨t, he, hv ▸ BitVec.toNat_add _ (-1), hrest⟩

/-- Settles O39: DAD is a write of HL and then of CY. -/
theorem dadAddsToHLAndWritesCarryOnly : Obligations.DadAddsToHLAndWritesCarryOnly := by
  intro p s
  obtain ⟨t, he, hsum, hrest⟩ := completes_of_setHL_setCarry (exec_dad p s)
  exact ⟨encode_dad p, t, he, hsum ▸ BitVec.toNat_ofNat _ 16, hrest⟩

end Sys2Proof
end

section
/-! Logical, rotate and carry instructions (42_logical.md): the bits of a rotated byte, what an instruction that rotates A
or writes CY completes with, and the obligations. -/
namespace Sys2Proof

namespace Machine

/-! ### The rotated bits (R163 to R166) -/

/-- RLC is RAL with A's own bit 7 in the place of CY (R163). -/
theorem rlc8_eq_ral8 (x : Byte) : rlc8 x = ral8 x (x.getLsbD 7) := rfl

/-- RRC is RAR with A's own bit 0 in the place of CY (R164). -/
theorem rrc8_eq_rar8 (x : Byte) : rrc8 x = rar8 x (x.getLsbD 0) := rfl

/-- A bit as a byte has that bit at 0 and no other. -/
theorem getLsbD_ofNat_toNat (b : Bool) (k : Nat) : (BitVec.ofNat 8 b.toNat).getLsbD k = (decide (k = 0) && b) := by
  cases b with
  | false => simp
  | true => simp [BitVec.getLsbD_one]

/-- The bit rotated in is bit 0, and every other bit comes from one place lower (R165). -/
theorem ral8_bits (x : Byte) (bitIn : Bool) :
    (ral8 x bitIn).1.getLsbD 0 = bitIn ∧ ∀ k < 7, (ral8 x bitIn).1.getLsbD (k + 1) = x.getLsbD k := by
  refine ⟨by cases bitIn <;> simp [ral8], fun k hk => ?_⟩
  simpa [ral8, getLsbD_ofNat_toNat] using fun _ => Nat.succ_lt_succ hk

/-- The bit rotated in is bit 7, and every other bit comes from one place higher (R166). -/
theorem rar8_bits (x : Byte) (bitIn : Bool) :
    (rar8 x bitIn).1.getLsbD 7 = bitIn ∧ ∀ k < 7, (rar8 x bitIn).1.getLsbD k = x.getLsbD (k + 1) := by
  refine ⟨by cases bitIn <;> simp [rar8], fun k hk => ?_⟩
  simp [rar8, getLsbD_ofNat_toNat, hk, Nat.add_comm]

/-! ### Rotations of A and writes of CY -/

/-- An instruction that rotates A completes with the rotated byte in A, CY the bit rotated out, and nothing else
changed (R163 to R166). -/
theorem completes_of_rotateAcc {i : Instr} {s : State} {r : Byte × Bool} (he : exec i s = rotateAcc r s) :
    ∃ t, exec i s = .next t ∧ t.a = r.1 ∧ t.flag .cy = r.2 ∧
      t.sp = s.sp ∧ t.pc = s.pc ∧ MemKept s t ∧ KeptExcept [.a] [.cy] s t :=
  ⟨_, he, rfl, flag_setFlag _ .cy .cy r.2, rfl, rfl, memKept_setReg s .a r.1,
    (keptExcept_setReg s .a r.1).trans_append (keptExcept_setFlag _ .cy r.2)⟩

/-- An instruction that writes CY completes with nothing else changed (R168, R169). -/
theorem completes_of_setCarry {i : Instr} {s : State} {v : Bool} (he : exec i s = setCarry v s) :
    ∃ t, exec i s = .next t ∧ t.flag .cy = v ∧
      t.sp = s.sp ∧ t.pc = s.pc ∧ MemKept s t ∧ KeptExcept [] [.cy] s t :=
  ⟨_, he, flag_setFlag s .cy .cy v, rfl, rfl, fun _ => rfl, keptExcept_setFlag s .cy v⟩

end Machine

open Machine

/-! ### The obligations -/

/-- Settles O35: the three operations are logic8 of the bitwise result. -/
theorem logicalOperationsClearCarries : Obligations.LogicalOperationsClearCarries := by
  intro op src s res hop
  have hr : aluResult op s.a (s.operandValue src) (s.flag .cy) = logic8 res := by
    obtain ⟨rfl, rfl⟩ | ⟨rfl, rfl⟩ | ⟨rfl, rfl⟩ := hop <;> rfl
  have hne : op ≠ .cmp := by
    obtain ⟨rfl, -⟩ | ⟨rfl, -⟩ | ⟨rfl, -⟩ := hop <;> decide
  refine ⟨encode_alu op src, faultsOnMissing_of_access (exec_alu op src s), fun hb => ?_⟩
  obtain ⟨t, he, ha, hszp, hrest⟩ := alu_completes hne hr hb
  exact ⟨t, he, ha, ha ▸ hszp, hrest⟩

/-- Settles O41: each rotate is RAL or RAR with its own bit rotated in. -/
theorem rotatesMoveBitsAndWriteCarryOnly : Obligations.RotatesMoveBitsAndWriteCarryOnly := by
  rintro i op left bitIn bitOut s hrow rfl
  have hrot : encode i = [op] ∧ exec i s = rotateAcc (if left then ral8 s.a bitIn else rar8 s.a bitIn) s := by
    obtain ⟨rfl, rfl, rfl, rfl⟩ | ⟨rfl, rfl, rfl, rfl⟩ | ⟨rfl, rfl, rfl, rfl⟩ | ⟨rfl, rfl, rfl, rfl⟩ := hrow
    · exact ⟨rfl, rlc8_eq_ral8 s.a ▸ exec_rlc s⟩
    · exact ⟨rfl, rrc8_eq_rar8 s.a ▸ exec_rrc s⟩
    · exact ⟨rfl, exec_ral s⟩
    · exact ⟨rfl, exec_rar s⟩
  obtain ⟨hbytes, hexec⟩ := hrot
  obtain ⟨t, he, ha, hcy, hrest⟩ := completes_of_rotateAcc hexec
  cases left with
  | true => exact ⟨hbytes, t, he, hcy, fun _ => ha ▸ ral8_bits s.a bitIn, nofun, hrest⟩
  | false => exact ⟨hbytes, t, he, hcy, nofun, fun _ => ha ▸ rar8_bits s.a bitIn, hrest⟩

/-- Settles O42: CMA is one write of A, CMC and STC are one write of CY each. -/
theorem cmaCmcAndStc : Obligations.CmaCmcAndStc :=
  fun s => ⟨rfl, rfl, rfl,
    ⟨_, exec_cma s, BitVec.toNat_not, rfl, rfl, rfl, memKept_setReg s .a _, keptExcept_setReg s .a _⟩,
    completes_of_setCarry (exec_cmc s), completes_of_setCarry (exec_stc s)⟩

end Sys2Proof
end

section
/-! Branches (43_branch.md): the condition a transfer tests, the encodings by condition codes, what a jump and a return
complete with, and the obligations. -/
namespace Sys2Proof

/-! ### Encodings by condition codes (30_encoding.md R76) -/

theorem encode_jcc (k : Cond) (a16 : Word) :
    encode (.jcc k a16) = [0b11#2 ++ k.code ++ 0b010#3, lo a16, hi a16] := by
  cases k <;> rfl

theorem encode_rcc (k : Cond) : encode (.rcc k) = [0b11#2 ++ k.code ++ 0b000#3] := by
  cases k <;> rfl

namespace Machine

/-! ### Conditional transfers (R180) -/

/-- A condition holds exactly when its one flag has the value it tests. -/
theorem cond_iff_flag (s : State) (k : Cond) :
    s.cond k = true ↔ s.flag (condTests k).1 = (condTests k).2 := by
  cases k <;> simp [State.cond, condTests]

theorem whenCond_of_flag_eq {s : State} {k : Cond} {transfer : Result}
    (h : s.flag (condTests k).1 = (condTests k).2) : whenCond k transfer s = transfer :=
  if_pos ((cond_iff_flag s k).mpr h)

theorem whenCond_of_flag_ne {s : State} {k : Cond} {transfer : Result}
    (h : s.flag (condTests k).1 ≠ (condTests k).2) : whenCond k transfer s = .next s :=
  if_neg ((cond_iff_flag s k).not.mpr h)

/-! ### Frames of the writes of PC and SP -/

theorem keptExcept_setPc (s : State) (target : Word) : KeptExcept [] [] s { s with pc := target } :=
  ⟨fun _ _ => rfl, fun _ _ => rfl, ⟨rfl, rfl, rfl, rfl⟩, rfl, rfl⟩

theorem keptExcept_dropWord (s : State) : KeptExcept [] [] s s.dropWord :=
  ⟨fun r _ => dropWord_reg s r, fun _ _ => rfl, ⟨rfl, rfl, rfl, rfl⟩, rfl, rfl⟩

/-! ### Jumps and returns -/

/-- An untaken Jccc is a jump to PCn, where PC stands already (R182). -/
theorem exec_jcc_eq_jumpTo (k : Cond) (a16 : Word) (s : State) :
    exec (.jcc k a16) s = jumpTo (if s.flag (condTests k).1 = (condTests k).2 then a16 else s.pc) s := by
  rw [exec_jcc]
  split
  case isTrue htaken => exact whenCond_of_flag_eq htaken
  case isFalse huntaken => exact whenCond_of_flag_ne huntaken

/-- An instruction that jumps completes with PC its target and nothing else changed (R181, R188). -/
theorem completes_of_jumpTo {i : Instr} {s : State} {target : Word} (he : exec i s = jumpTo target s) :
    ∃ t, exec i s = .next t ∧ t.pc = target ∧ t.sp = s.sp ∧ MemKept s t ∧ KeptExcept [] [] s t :=
  ⟨_, he, rfl, rfl, fun _ => rfl, keptExcept_setPc s target⟩

/-- An instruction that returns faults where a byte of the word at SP is missing, and else completes with PC that word,
SP past it and nothing else changed (R185). -/
theorem completes_of_returnFromCall {i : Instr} {s : State} (he : exec i s = returnFromCall s) :
    FaultsOnMissing i s [s.sp, s.sp + 1] ∧
    (s.hasByte s.sp → s.hasByte (s.sp + 1) →
      ∃ t, exec i s = .next t ∧ t.pc = pair (s.readByte (s.sp + 1)) (s.readByte s.sp) ∧ t.sp = s.sp + 2 ∧
        MemKept s t ∧ KeptExcept [] [] s t) :=
  ⟨faultsOnMissing_of_access he, fun hlow hhigh =>
    ⟨_, exec_eq_effect_of_hasBytes he (hasByte_of_mem_pair hlow hhigh), rfl, rfl, fun _ => rfl,
      (keptExcept_dropWord s).trans (keptExcept_setPc s.dropWord s.popValue)⟩⟩

end Machine

open Machine

/-! ### The obligations -/

/-- Settles O43: each of the three is jumpTo, an untaken Jccc to PCn. -/
theorem jumpsSetPc : Obligations.JumpsSetPc :=
  fun k a16 s => ⟨rfl, rfl, encode_jcc k a16, completes_of_jumpTo (exec_jmp a16 s),
    completes_of_jumpTo (exec_pchl s), completes_of_jumpTo (exec_jcc_eq_jumpTo k a16 s)⟩

/-- Settles O45: RET, and Rccc when its flag has the value tested, are returnFromCall. -/
theorem takenReturnsPopPc : Obligations.TakenReturnsPopPc := by
  rintro i op s (⟨rfl, rfl⟩ | ⟨k, rfl, rfl, htaken⟩)
  · exact ⟨rfl, completes_of_returnFromCall (exec_ret s)⟩
  · exact ⟨encode_rcc k, completes_of_returnFromCall ((exec_rcc k s).trans (whenCond_of_flag_eq htaken))⟩

end Sys2Proof
end

section
/-! The stack (44_stack_io_control.md): the encoding of PUSH, the value it stores, the frame of Push16, and the
obligations. -/
namespace Sys2Proof

theorem encode_push (p : StackPair) : encode (.push p) = [0b11#2 ++ p.code ++ 0b0101#4] := by
  cases p <;> rfl

namespace Machine

/-- The word PUSH stores, by its two registers: A and F for PSW (R200, R201). -/
theorem stackPairValue_eq_pair {p : StackPair} {high low : Byte} {s : State}
    (h : p = .bc ∧ high = s.b ∧ low = s.c ∨ p = .de ∧ high = s.d ∧ low = s.e ∨
      p = .hl ∧ high = s.h ∧ low = s.l ∨ p = .psw ∧ high = s.a ∧ low = s.f) :
    s.stackPairValue p = pair high low := by
  obtain ⟨rfl, rfl, rfl⟩ | ⟨rfl, rfl, rfl⟩ | ⟨rfl, rfl, rfl⟩ | ⟨rfl, rfl, rfl⟩ := h <;> rfl

theorem keptExcept_push16 (s : State) (v : Word) : KeptExcept [] [] s (s.push16 v) :=
  ⟨fun r _ => push16_reg s v r, fun _ _ => rfl, ⟨rfl, rfl, rfl, rfl⟩, rfl, rfl⟩

end Machine

open Machine

/-! ### The obligations -/

/-- Settles O47: PUSH is one Push16, of the pair's two registers. -/
theorem pushStoresThePair : Obligations.PushStoresThePair := by
  intro p high low s hpair
  have he : exec (.push p) s = s.access s.pushAddrs (.next (s.push16 (pair high low))) :=
    stackPairValue_eq_pair hpair ▸ exec_push p s
  refine ⟨encode_push p, faultsOnMissing_of_access he, fun hm hhigh hlow => ?_⟩
  obtain ⟨hbyte1, hbyte2, hkept⟩ := push16_bytes (v := pair high low) hm
  exact ⟨_, exec_eq_effect_of_hasBytes he (hasByte_of_mem_pair hhigh hlow), hbyte1.trans (hi_pair high low),
    hbyte2.trans (lo_pair high low), rfl, hkept, rfl, keptExcept_push16 s _⟩

/-- Settles O49: HL is written at SP as a word, and the word read before at SP is written to HL. -/
theorem xthlExchangesTheStackTop : Obligations.XthlExchangesTheStackTop := by
  intro s
  refine ⟨rfl, faultsOnMissing_of_access (exec_xthl s), fun hm hlow hhigh => ?_⟩
  obtain ⟨hl, hh, hkept⟩ := writeWord_bytes (addr := s.sp) (v := s.hl) hm
  exact ⟨_, exec_eq_effect_of_hasBytes (exec_xthl s) (hasByte_of_mem_pair hlow hhigh), lo_pair _ _, hi_pair _ _,
    hl.trans (lo_pair s.h s.l), hh.trans (hi_pair s.h s.l), hkept, rfl, rfl,
    (keptExcept_writeWord s s.sp s.hl).trans_append (keptExcept_setPair _ .hl s.popValue)⟩

end Sys2Proof
end

section
/-! The breakpoint functions (60_exceptions.md R235 to R237): an equation for each of their branches, and the
obligation. -/
namespace Sys2Proof

namespace Machine

variable {s : State} {addr : Word}

theorem addBreakpoint_of_mem (h : addr ∈ s.breakpoints) : s.addBreakpoint addr = (s, true) :=
  if_pos h

theorem addBreakpoint_of_full (h : addr ∉ s.breakpoints) (hfull : s.cfg.bpCapacity ≤ s.breakpoints.length) :
    s.addBreakpoint addr = (s, false) :=
  (if_neg h).trans (if_pos hfull)

theorem addBreakpoint_of_room (h : addr ∉ s.breakpoints) (hroom : s.breakpoints.length < s.cfg.bpCapacity) :
    s.addBreakpoint addr = ({ s with breakpoints := s.breakpoints ++ [addr] }, true) :=
  (if_neg h).trans (if_neg hroom.not_ge)

theorem removeBreakpoint_of_mem (h : addr ∈ s.breakpoints) :
    s.removeBreakpoint addr = ({ s with breakpoints := s.breakpoints.erase addr }, true) :=
  if_pos h

theorem removeBreakpoint_of_notMem (h : addr ∉ s.breakpoints) : s.removeBreakpoint addr = (s, false) :=
  if_neg h

/-- Erasing takes out the first occurrence, and so keeps the order of the others (R236). -/
theorem removeBreakpoint_of_eq_append_cons {pre post : List Word} (hlist : s.breakpoints = pre ++ addr :: post)
    (hpre : addr ∉ pre) : s.removeBreakpoint addr = ({ s with breakpoints := pre ++ post }, true) := by
  have hmem : addr ∈ s.breakpoints := hlist ▸ List.mem_append_cons_self
  rw [removeBreakpoint_of_mem hmem, hlist, List.erase_append_right _ hpre, List.erase_cons_head]

end Machine

open Machine

/-! ### The obligation -/

/-- Settles O57: one branch of addBreakpoint or removeBreakpoint for each clause; listBreakpoints is the list itself. -/
theorem breakpointFunctions : Obligations.BreakpointFunctions := fun _ _ =>
  ⟨addBreakpoint_of_mem, addBreakpoint_of_full, addBreakpoint_of_room, removeBreakpoint_of_notMem,
    fun _ _ => removeBreakpoint_of_eq_append_cons⟩

end Sys2Proof
end

section
/-! The round trip of the encoding (30_encoding.md sections 1 to 4): what decode answers by the format of the opcode byte,
which instruction an encoding's bytes select, which bytes the selected instruction is encoded as, and the obligations. -/
namespace Sys2Proof

/-! ### decode by the format of the opcode byte (R71, R79) -/

/-- The operand bytes of a format, from the operand it holds (30_encoding.md R71, R78). -/
def Format.operands (d8 : Byte) (d16 : Word) : Format → List Byte
  | .i1 => []
  | .i2 => [d8]
  | .i3 => [lo d16, hi d16]

/-- An opcode byte with as many operand bytes as its format has is dispatched on; an operand byte that the format does
not have counts as 0. -/
theorem decode_of_format {op : Byte} {operands : List Byte} {fmt : Format} (hfmt : opFormat op = some fmt)
    (hlen : fmt.length = operands.length + 1) (rest : List Byte) :
    decode (op :: operands ++ rest) = decode.decoded op (operands.getD 0 0) (operands.getD 1 0) rest := by
  cases fmt with
  | i1 =>
    obtain rfl : operands = [] := List.eq_nil_of_length_eq_zero (Nat.succ.inj hlen.symm)
    simp [decode, hfmt]
  | i2 =>
    obtain ⟨byte2, rfl⟩ := List.length_eq_one_iff.mp (Nat.succ.inj hlen.symm)
    simp [decode, hfmt]
  | i3 =>
    obtain ⟨byte2, byte3, rfl⟩ := List.length_eq_two.mp (Nat.succ.inj hlen.symm)
    simp [decode, hfmt]

theorem decoded_eq_ok {op byte2 byte3 : Byte} {i : Instr} {bytes rest : List Byte}
    (h : decode.decoded op byte2 byte3 bytes = .ok (i, rest)) : decodeOp op byte2 byte3 = some i ∧ bytes = rest := by
  unfold decode.decoded at h
  split at h
  · next j hj =>
    cases h
    exact ⟨hj, rfl⟩
  · cases h

/-- A byte string that decodes: an opcode byte, as many operand bytes as its format has, and what is left. -/
theorem decode_eq_ok {bytes rest : List Byte} {i : Instr} (h : decode bytes = .ok (i, rest)) :
    ∃ op operands fmt, bytes = op :: operands ++ rest ∧ opFormat op = some fmt ∧
      fmt.length = operands.length + 1 ∧ decodeOp op (operands.getD 0 0) (operands.getD 1 0) = some i := by
  unfold decode at h
  split at h
  · cases h
  · next op tail =>
    split at h
    · cases h
    · next hfmt =>
      obtain ⟨hd, rfl⟩ := decoded_eq_ok h
      exact ⟨op, [], .i1, rfl, hfmt, rfl, hd⟩
    · next byte2 tail' hfmt =>
      obtain ⟨hd, rfl⟩ := decoded_eq_ok h
      exact ⟨op, [byte2], .i2, rfl, hfmt, rfl, hd⟩
    · next byte2 byte3 tail' hfmt =>
      obtain ⟨hd, rfl⟩ := decoded_eq_ok h
      exact ⟨op, [byte2, byte3], .i3, rfl, hfmt, rfl, hd⟩
    all_goals cases h

/-! ### From the instruction to its bytes and back -/

/-- A word operand read from its two bytes is the operand (R78). -/
theorem some_operand_eq (make : Word → Instr) (w : Word) : some (make (pair (hi w) (lo w))) = some (make w) :=
  congrArg (fun v => some (make v)) (pair_hi_lo w)

/-- The opcode byte of an encoding selects the instruction. -/
theorem decodeOp_of_encode {i : Instr} {op : Byte} {operands : List Byte} (h : encode i = op :: operands) :
    decodeOp op (operands.getD 0 0) (operands.getD 1 0) = some i := by
  cases i <;>
    (simp only [encode, List.cons.injEq] at h
     obtain ⟨rfl, rfl⟩ := h
     unfold decodeOp
     first | rfl | exact some_operand_eq _ _)

theorem encode_ne_nil (i : Instr) : encode i ≠ [] := by
  cases i <;> exact List.cons_ne_nil _ _

/-- The opcode byte with these fields: its quadrant, and bits 5:3 and 2:0 (R75). -/
def opcodeOf (q : Fin 4) (y z : Fin 8) : Byte :=
  BitVec.ofFin (w := 2) q ++ BitVec.ofFin (w := 3) y ++ BitVec.ofFin (w := 3) z

theorem opcodeOf_fields : ∀ op : Byte, opcodeOf (quadrant op) (field3 op 3) (field3 op 0) = op := by decide

/-- The decoder's and the encoder's tables agree in every quadrant, row and column; the operand stays a variable. -/
theorem map_encode_decodeOp_opcodeOf (q : Fin 4) (y z : Fin 8) :
    (fun byte2 byte3 => (decodeOp (opcodeOf q y z) byte2 byte3).map encode) =
      fun byte2 byte3 => (opFormat (opcodeOf q y z)).map
        fun fmt => opcodeOf q y z :: fmt.operands byte2 (pair byte3 byte2) := by
  fin_cases q <;> fin_cases y <;> fin_cases z <;> rfl

/-- The instruction that an opcode byte selects is encoded as that byte and the operand bytes of its format. -/
theorem encode_of_decodeOp {op byte2 byte3 : Byte} {fmt : Format} {i : Instr} (hfmt : opFormat op = some fmt)
    (h : decodeOp op byte2 byte3 = some i) : encode i = op :: fmt.operands byte2 (pair byte3 byte2) := by
  have htables := congrFun₂ (map_encode_decodeOp_opcodeOf (quadrant op) (field3 op 3) (field3 op 0)) byte2 byte3
  rw [opcodeOf_fields, h, hfmt] at htables
  exact Option.some.inj htables

theorem Format.operands_eq {fmt : Format} {operands : List Byte} (hlen : fmt.length = operands.length + 1) :
    fmt.operands (operands.getD 0 0) (pair (operands.getD 1 0) (operands.getD 0 0)) = operands := by
  cases fmt with
  | i1 => exact (List.eq_nil_of_length_eq_zero (Nat.succ.inj hlen.symm)).symm
  | i2 =>
    obtain ⟨byte2, rfl⟩ := List.length_eq_one_iff.mp (Nat.succ.inj hlen.symm)
    rfl
  | i3 =>
    obtain ⟨byte2, byte3, rfl⟩ := List.length_eq_two.mp (Nat.succ.inj hlen.symm)
    simp [Format.operands]

theorem decode_ne_illegalOpcode {op : Byte} {fmt : Format} (hfmt : opFormat op = some fmt) (rest : List Byte) :
    decode (op :: rest) ≠ .error (.illegalOpcode op) := by
  have hdecoded : ∀ byte2 byte3 left, decode.decoded op byte2 byte3 left ≠ .error (.illegalOpcode op) := by
    intro byte2 byte3 left
    obtain ⟨i, -, hok⟩ := decoded_of_format (byte2 := byte2) (byte3 := byte3) (rest := left) (Option.isSome_of_eq_some hfmt)
    rw [hok]
    exact nofun
  cases fmt with
  | i1 => simpa [decode, hfmt] using hdecoded 0 0 rest
  | i2 =>
    match rest with
    | [] => simp [decode, hfmt]
    | byte2 :: left => simpa [decode, hfmt] using hdecoded byte2 0 left
  | i3 =>
    match rest with
    | [] | [_] => simp [decode, hfmt]
    | byte2 :: byte3 :: left => simpa [decode, hfmt] using hdecoded byte2 byte3 left

/-! ### The obligations -/

/-- Settles O1: the encoding's opcode byte has the format of its length and selects the instruction. -/
theorem decodeOfEncodeIsTheInstruction : Obligations.DecodeOfEncodeIsTheInstruction := by
  intro i rest
  obtain ⟨op, operands, hbytes⟩ := List.exists_cons_of_ne_nil (encode_ne_nil i)
  obtain ⟨fmt, hfmt, hlen⟩ := format_of_encode hbytes
  rw [hbytes, decode_of_format hfmt hlen, decode.decoded, decodeOp_of_encode hbytes]

/-- Settles O2: the bytes are an opcode byte and its format's operand bytes, of which the encoding is made too. -/
theorem encodeOfDecodeIsTheBytes : Obligations.EncodeOfDecodeIsTheBytes := by
  intro bytes i rest h
  obtain ⟨op, operands, fmt, rfl, hfmt, hlen, hd⟩ := decode_eq_ok h
  rw [encode_of_decodeOp hfmt hd, fmt.operands_eq hlen]

/-- Settles O3: decode refuses an opcode byte exactly when it has no format. -/
theorem exactlyTenOpcodesAreIllegal : Obligations.ExactlyTenOpcodesAreIllegal := by
  intro op rest
  refine Iff.trans ?_ (opFormat_eq_none_iff op)
  cases hfmt : opFormat op with
  | none => simp [decode, hfmt]
  | some fmt => simp [decode_ne_illegalOpcode hfmt]

/-- Settles O5: each word is run through the decoder. -/
theorem specWordsDecode : Obligations.SpecWordsDecode := by
  unfold Obligations.SpecWordsDecode
  decide

end Sys2Proof
end

section
/-! Subtraction, compare, DCR and DAA (41_arithmetic.md sections 1 and 3 to 5, 42_logical.md section 3): sub8 and daa8 in
exact terms, and the obligations. -/
namespace Sys2Proof

theorem encode_dcrReg (r : Reg8) : encode (.dcrReg r) = [0b00#2 ++ r.code ++ 0b101#3] := by
  cases r <;> rfl

namespace Machine

/-! ### Subtraction in exact terms (R121) -/

/-- The complement addition subtracts, borrows exactly below zero, and its AC is the missing borrow of the low nibbles. -/
theorem sub8_eq (x y : Byte) (bin : Bool) :
    sub8 x y bin = withSzp (x - y - BitVec.ofNat 8 bin.toNat)
      (decide (y.toNat % 16 + bin.toNat ≤ x.toNat % 16)) (decide (x.toNat < y.toNat + bin.toNat)) := by
  have hbin : bin.toNat ≤ 1 := bin.toNat_le
  have hx := x.isLt
  have hy := y.isLt
  have hres : BitVec.ofNat 8 (x.toNat + (255 - y.toNat) + (1 - bin.toNat)) = x - y - BitVec.ofNat 8 bin.toNat := by
    bv_omega
  have hac : x.toNat % 16 + (255 - y.toNat) % 16 + (1 - bin.toNat) > 15 ↔ y.toNat % 16 + bin.toNat ≤ x.toNat % 16 := by
    omega
  have hcy : ¬ x.toNat + (255 - y.toNat) + (1 - bin.toNat) > 255 ↔ x.toNat < y.toNat + bin.toNat := by omega
  simp only [sub8, hres, hac, ← decide_not, hcy]

/-- The difference as an integer modulo 256. -/
theorem toNat_sub_sub_ofNat (x y : Byte) (bin : Bool) :
    ((x - y - BitVec.ofNat 8 bin.toNat).toNat : Int) = ((x.toNat : Int) - y.toNat - bin.toNat) % 256 := by
  have hbin : bin.toNat ≤ 1 := bin.toNat_le
  have hx := x.isLt
  have hy := y.isLt
  simp only [BitVec.toNat_sub, BitVec.toNat_ofNat]
  omega

/-- Without a borrow in, the difference is that of the bytes. -/
theorem sub8_false (x y : Byte) :
    sub8 x y false = withSzp (x - y) (decide (y.toNat % 16 ≤ x.toNat % 16)) (decide (x.toNat < y.toNat)) := by
  simpa using sub8_eq x y false

/-- Subtracting 1 borrows out of the low nibble exactly when it was 0 (R137). -/
theorem sub8_one (x : Byte) :
    sub8 x 1 false = withSzp (x - 1) (decide (x.toNat % 16 ≠ 0)) (decide (x.toNat = 0)) := by
  have hac : (1 : Byte).toNat % 16 ≤ x.toNat % 16 ↔ x.toNat % 16 ≠ 0 := Nat.one_le_iff_ne_zero
  have hcy : x.toNat < (1 : Byte).toNat ↔ x.toNat = 0 := Nat.lt_one_iff
  simp only [sub8_false, hac, hcy]

/-- DCR writes the register less 1, with AC exactly when its low nibble was not 0 (R137). -/
theorem decrementReg_eq (r : Reg8) (s : State) :
    decrementReg r s = .next ((s.setReg r (s.reg r - 1)).setFlagsKeepCy
      (withSzp (s.reg r - 1) (decide ((s.reg r).toNat % 16 ≠ 0)) (decide ((s.reg r).toNat = 0)))) := by
  rw [decrementReg, sub8_one]
  rfl

/-- DCR M writes the byte at HL less 1, with AC exactly when its low nibble was not 0 (R138). -/
theorem decrementM_eq (s : State) :
    decrementM s = s.access [s.hl] (.next ((s.writeByte s.hl (s.readByte s.hl - 1)).setFlagsKeepCy
      (withSzp (s.readByte s.hl - 1) (decide ((s.readByte s.hl).toNat % 16 ≠ 0))
        (decide ((s.readByte s.hl).toNat = 0))))) := by
  rw [decrementM, sub8_one]
  rfl

/-! ### Comparison (R160 to R162) -/

/-- A compare completes with the flags of the difference, and nothing else changed. -/
theorem cmp_completes {src : Operand8} {s : State} (hb : ∀ w ∈ s.operandAccess src, s.hasByte w) :
    ∃ t, exec (.alu .cmp src) s = .next t ∧ SzpOf (s.a - s.operandValue src) t ∧
      t.flag .cy = decide (s.a.toNat < (s.operandValue src).toNat) ∧
      t.flag .ac = decide ((s.operandValue src).toNat % 16 ≤ s.a.toNat % 16) ∧
      t.sp = s.sp ∧ t.pc = s.pc ∧ MemKept s t ∧ KeptExcept [] [.s, .z, .ac, .p, .cy] s t := by
  have he := exec_eq_effect_of_hasBytes (exec_alu .cmp src s) hb
  rw [aluResult, sub8_false] at he
  obtain ⟨-, -, hac, -, hcy⟩ := flag_setFlags s (withSzp (s.a - s.operandValue src)
    (decide ((s.operandValue src).toNat % 16 ≤ s.a.toNat % 16)) (decide (s.a.toNat < (s.operandValue src).toNat)))
  exact ⟨_, he, szpOf_setFlags s _ _ _, hcy, hac, rfl, rfl, fun _ => rfl, keptExcept_setFlags s _⟩

/-! ### DAA (R142) -/

/-- An instruction that writes A and all five flags of it completes with nothing else changed. -/
theorem completes_of_setA_setFlags {i : Instr} {s : State} {res : Byte} {ac cy : Bool}
    (he : exec i s = .next ((s.setReg .a res).setFlags (withSzp res ac cy))) :
    ∃ t, exec i s = .next t ∧ t.a = res ∧ SzpOf t.a t ∧ t.flag .cy = cy ∧ t.flag .ac = ac ∧
      t.sp = s.sp ∧ t.pc = s.pc ∧ MemKept s t ∧ KeptExcept [.a] [.s, .z, .ac, .p, .cy] s t := by
  obtain ⟨-, -, hac, -, hcy⟩ := flag_setFlags (s.setReg .a res) (withSzp res ac cy)
  exact ⟨_, he, rfl, szpOf_setFlags _ res ac cy, hcy, hac, rfl, rfl, memKept_setReg s .a res,
    (keptExcept_setReg s .a res).trans_append (keptExcept_setFlags _ _)⟩

/-- DAA's one-step formula in two steps: the low nibble first, then the high nibble of what that gives. -/
theorem daa8_eq (x : Byte) (ac cy : Bool) (low : Nat)
    (hlow : low = x.toNat + if x.toNat % 16 > 9 ∨ ac = true then 6 else 0) :
    daa8 x ac cy = withSzp (BitVec.ofNat 8 (low + if low / 16 > 9 ∨ cy = true then 0x60 else 0))
      (decide (x.toNat % 16 + (if x.toNat % 16 > 9 ∨ ac = true then 6 else 0) > 15))
      (cy || decide (low / 16 > 9)) := by
  have hhigh : low / 16 > 9 ↔ x.toNat > 0x99 := by
    split at hlow <;> omega
  have hmod : ∀ lowCorr ≤ 6, ∀ c : Prop, [Decidable c] → (lowCorr + if c then 0x60 else 0) % 16 = lowCorr := by
    intro lowCorr hle c _
    split <;> omega
  have hcorr : (if x.toNat % 16 > 9 ∨ ac = true then 6 else 0) ≤ 6 := by
    split <;> omega
  simp only [daa8, daaLow, daaHigh, hhigh, Bool.or_eq_true, decide_eq_true_eq, hmod _ hcorr]
  rw [hlow, Nat.add_assoc, Bool.or_assoc, Bool.or_self, Bool.or_comm]

end Machine

open Machine

/-! ### The obligations -/

/-- Settles O33: both operations are sub8 of A, the operand and the borrow in. -/
theorem subtractionsSubtractAndSetFlags : Obligations.SubtractionsSubtractAndSetFlags := by
  intro op bin src s hop
  have hr : aluResult op s.a (s.operandValue src) (s.flag .cy) = sub8 s.a (s.operandValue src) bin := by
    obtain ⟨rfl, rfl⟩ | ⟨rfl, rfl⟩ := hop <;> rfl
  have hne : op ≠ .cmp := by
    obtain ⟨rfl, -⟩ | ⟨rfl, -⟩ := hop <;> decide
  refine ⟨encode_alu op src, faultsOnMissing_of_access (exec_alu op src s), fun hb => ?_⟩
  obtain ⟨t, he, ha, hrest⟩ := alu_completes hne (hr.trans (sub8_eq _ _ _)) hb
  exact ⟨t, he, ha ▸ toNat_sub_sub_ofNat _ _ _, hrest⟩

/-- Settles O34: a compare is sub8 without a borrow in; the difference is 0 exactly on equality. -/
theorem comparesSetFlagsAndKeepA : Obligations.ComparesSetFlagsAndKeepA := by
  intro src s
  refine ⟨encode_alu .cmp src, faultsOnMissing_of_access (exec_alu .cmp src s), fun hb => ?_⟩
  obtain ⟨t, he, hszp, hrest⟩ := cmp_completes hb
  refine ⟨t, he, hszp, ?_, hrest⟩
  obtain ⟨-, hz, -⟩ := hszp
  have heq : s.a - s.operandValue src = 0 ↔ s.a = s.operandValue src := by bv_omega
  simpa only [heq] using hz

/-- Settles O37: DCR writes the result and the flags of sub8 with 1, to a register or to the byte at HL. -/
theorem decrementsKeepCarry : Obligations.DecrementsKeepCarry :=
  fun s => ⟨fun r => ⟨encode_dcrReg r,
      completes_of_setReg_setFlagsKeepCy ((exec_dcrReg r s).trans (decrementReg_eq r s))⟩,
    rfl, completes_of_writeByte_setFlagsKeepCy ((exec_dcrM s).trans (decrementM_eq s))⟩

/-- Settles O40: DAA writes A and the five flags of its two-step form. -/
theorem daaAdjustsInTwoSteps : Obligations.DaaAdjustsInTwoSteps := by
  intro s low hlow
  have he := exec_daa s
  rw [decimalAdjust, daa8_eq s.a (s.flag .ac) (s.flag .cy) low hlow] at he
  obtain ⟨t, he, ha, hrest⟩ := completes_of_setA_setFlags he
  exact ⟨rfl, t, he, ha ▸ BitVec.toNat_ofNat _ 8, hrest⟩

end Sys2Proof
end

section
/-! Calls, returns and POP (43_branch.md section 1, 44_stack_io_control.md section 1): what a call completes with, how a
push is undone, and the obligations. -/
namespace Sys2Proof

theorem encode_ccc (k : Cond) (a16 : Word) :
    encode (.ccc k a16) = [0b11#2 ++ k.code ++ 0b100#3, lo a16, hi a16] := by
  cases k <;> rfl

theorem encode_rst (n : Fin 8) : encode (.rst n) = [0b11#2 ++ BitVec.ofFin (w := 3) n ++ 0b111#3] := by
  fin_cases n <;> rfl

theorem encode_pop (p : StackPair) : encode (.pop p) = [0b11#2 ++ p.code ++ 0b0001#4] := by
  cases p <;> rfl

namespace Machine

/-! ### Calls -/

/-- An instruction that calls faults where a byte below SP is missing, and else completes with PCn pushed, PC its target
and nothing else changed (R183, R187). -/
theorem completes_of_callTo {i : Instr} {s : State} {target : Word} (he : exec i s = callTo target s) :
    FaultsOnMissing i s [s.sp - 1, s.sp - 2] ∧
    (Memory.wf s.mem → s.hasByte (s.sp - 1) → s.hasByte (s.sp - 2) →
      ∃ t, exec i s = .next t ∧ t.pc = target ∧ t.sp = s.sp - 2 ∧
        t.readByte (s.sp - 1) = hi s.pc ∧ t.readByte (s.sp - 2) = lo s.pc ∧
        MemKeptOutside [s.sp - 1, s.sp - 2] s t ∧ KeptExcept [] [] s t) := by
  refine ⟨faultsOnMissing_of_access he, fun hm hhigh hlow => ?_⟩
  obtain ⟨hbyte1, hbyte2, hkept⟩ := push16_bytes (v := s.pc) hm
  exact ⟨_, exec_eq_effect_of_hasBytes he (hasByte_of_mem_pair hhigh hlow), rfl, rfl, hbyte1, hbyte2, hkept,
    (keptExcept_push16 s s.pc).trans (keptExcept_setPc _ target)⟩

/-! ### A push undone (R56, R57) -/

theorem sp_sub_two_add_one (sp : Word) : sp - 2 + 1 = sp - 1 := by bv_omega

theorem sp_sub_two_add_two (sp : Word) : sp - 2 + 2 = sp := by bv_omega

/-- The bytes Pop16 reads after a push are those the push wrote. -/
theorem hasByte_popAddrs_of_push {s u : State} (hsp : u.sp = s.sp - 2) (hcfg : u.cfg = s.cfg)
    (hhigh : s.hasByte (s.sp - 1)) (hlow : s.hasByte (s.sp - 2)) : ∀ w ∈ u.popAddrs, u.hasByte w := by
  have hhas : ∀ w, s.hasByte w → u.hasByte w := fun w hw => by rwa [State.hasByte, hcfg]
  rw [State.popAddrs, hsp, sp_sub_two_add_one]
  exact hasByte_of_mem_pair (hhas _ hlow) (hhas _ hhigh)

/-- The word Pop16 returns depends on SP and memory only. -/
theorem popValue_congr {t u : State} (hsp : u.sp = t.sp) (hmem : MemKept t u) : u.popValue = t.popValue := by
  simp only [State.popValue, State.readWord, State.readByte, hsp, hmem _]

/-- A pair written with what it holds is as it was. -/
theorem setStackPair_stackPairValue (s : State) (p : StackPair) : s.setStackPair p (s.stackPairValue p) = s := by
  cases p <;> simp [State.setStackPair, State.stackPairValue]

/-- Push16 and Pop16's effect on SP leave every pair that PUSH and POP name. -/
theorem stackPairValue_dropWord_push16 (s : State) (p : StackPair) (v : Word) :
    (s.push16 v).dropWord.stackPairValue p = s.stackPairValue p := by
  cases p <;> rfl

theorem setStackPair_dropWord_push16 (s : State) (p : StackPair) (v : Word) :
    (s.push16 v).dropWord.setStackPair p (s.stackPairValue p) = (s.push16 v).dropWord := by
  rw [← stackPairValue_dropWord_push16 s p v, setStackPair_stackPairValue]

end Machine

open Machine

/-! ### The obligations -/

/-- Settles O44: CALL, a taken Cccc and RST are callTo, each to its target. -/
theorem takenCallsPushPcnAndJump : Obligations.TakenCallsPushPcnAndJump := by
  rintro i bytes target s (⟨a16, rfl, rfl, rfl⟩ | ⟨k, a16, rfl, rfl, rfl, htaken⟩ | ⟨n, rfl, rfl, rfl⟩)
  · exact ⟨rfl, completes_of_callTo (exec_call _ s)⟩
  · exact ⟨encode_ccc k _, completes_of_callTo ((exec_ccc k _ s).trans (whenCond_of_flag_eq htaken))⟩
  · exact ⟨encode_rst n, completes_of_callTo (exec_rst n s)⟩

/-- Settles O46: without its condition a transfer is not made, and with it no stack access. -/
theorem untakenCallsAndReturnsDoNothing : Obligations.UntakenCallsAndReturnsDoNothing :=
  fun k a16 s huntaken => ⟨(exec_ccc k a16 s).trans (whenCond_of_flag_ne huntaken),
    (exec_rcc k s).trans (whenCond_of_flag_ne huntaken)⟩

/-- Settles O48: POP moves SP past the word at it and writes the word to the pair. -/
theorem popLoadsThePair : Obligations.PopLoadsThePair := by
  intro p s
  refine ⟨encode_pop p, faultsOnMissing_of_access (exec_pop p s), fun hlow hhigh => ?_⟩
  refine ⟨_, exec_eq_effect_of_hasBytes (exec_pop p s) (hasByte_of_mem_pair hlow hhigh), by simp, by simp,
    fun _ => by simp, ?bc, ?de, ?hl, ?psw⟩
  case bc =>
    rintro rfl
    exact ⟨hi_pair _ _, lo_pair _ _, (keptExcept_dropWord s).trans_append (keptExcept_setPair _ .bc _)⟩
  case de =>
    rintro rfl
    exact ⟨hi_pair _ _, lo_pair _ _, (keptExcept_dropWord s).trans_append (keptExcept_setPair _ .de _)⟩
  case hl =>
    rintro rfl
    exact ⟨hi_pair _ _, lo_pair _ _, (keptExcept_dropWord s).trans_append (keptExcept_setPair _ .hl _)⟩
  case psw =>
    rintro rfl
    obtain ⟨hreg, -, hengine, hhost⟩ := (keptExcept_dropWord s).trans_append (keptExcept_setReg _ .a (hi s.popValue))
    exact ⟨hi_pair _ _, lo_pair _ _, hreg, hengine, hhost⟩

/-- Settles O50: the word popped is the word pushed, and a pair written with what it holds is as it was. -/
theorem popUndoesPush : Obligations.PopUndoesPush := by
  intro p s hm hhigh hlow
  have hpush := exec_eq_effect_of_hasBytes (exec_push p s) (hasByte_of_mem_pair hhigh hlow)
  have hpop := exec_eq_effect_of_hasBytes (exec_pop p (s.push16 (s.stackPairValue p)))
    (hasByte_popAddrs_of_push rfl rfl hhigh hlow)
  rw [push16_popValue hm, setStackPair_dropWord_push16] at hpop
  exact ⟨_, _, hpush, hpop, fun r => by simp, rfl, sp_sub_two_add_two s.sp⟩

/-- Settles O51: RET pops the word CALL pushed. -/
theorem retReturnsFromCall : Obligations.RetReturnsFromCall := by
  intro a16 s hm hhigh hlow
  refine ⟨_, exec_eq_effect_of_hasBytes (exec_call a16 s) (hasByte_of_mem_pair hhigh hlow), rfl,
    fun u hsp hmem hcfg => ?_⟩
  have hpop : u.popValue = s.pc := (popValue_congr (t := s.push16 s.pc) hsp hmem).trans (push16_popValue hm)
  exact ⟨_, exec_eq_effect_of_hasBytes (exec_ret u) (hasByte_popAddrs_of_push hsp hcfg hhigh hlow), hpop,
    (congrArg (· + 2) hsp).trans (sp_sub_two_add_two s.sp)⟩

end Sys2Proof
end

section
/-! Rules over all instructions (10_state.md sections 1 to 5, 20_memory.md sections 3 and 4, 60_exceptions.md section 1): every
instruction is one checked access to its data addresses, and writes only what the spec's tables list for it. -/
namespace Sys2Proof

namespace Machine

/-! ### Every instruction is one checked access (R61, R225) -/

theorem eq_access_dataAddrs {i : Instr} {s t : State} {addrs : List Word} (hd : dataAddrs i s = addrs)
    (he : exec i s = s.access addrs (.next t)) : ∃ t, exec i s = s.access (dataAddrs i s) (.next t) :=
  ⟨t, hd ▸ he⟩

/-- A conditional transfer, taken or not, is one access: to its addresses or to none. -/
theorem whenCond_eq_access {k : Cond} {s t : State} (addrs : List Word) :
    whenCond k (s.access addrs (.next t)) s =
      s.access (if s.cond k then addrs else []) (.next (if s.cond k then t else s)) := by
  unfold whenCond
  split <;> rfl

theorem exec_eq_access (i : Instr) (s : State) : ∃ t, exec i s = s.access (dataAddrs i s) (.next t) := by
  revert i
  apply Instr.byFamily
  case movReg => exact fun dst src => eq_access_dataAddrs (dataAddrs_movReg dst src s) (exec_movReg dst src s)
  case movFromM => exact fun dst => eq_access_dataAddrs (dataAddrs_movFromM dst s) (exec_movFromM dst s)
  case movToM => exact fun src => eq_access_dataAddrs (dataAddrs_movToM src s) (exec_movToM src s)
  case mviReg => exact fun dst d8 => eq_access_dataAddrs (dataAddrs_mviReg dst d8 s) (exec_mviReg dst d8 s)
  case lxi => exact fun p d16 => eq_access_dataAddrs (dataAddrs_lxi p d16 s) (exec_lxi p d16 s)
  case alu => exact fun op src => eq_access_dataAddrs (dataAddrs_alu op src s) (exec_alu op src s)
  case inrReg => exact fun r => eq_access_dataAddrs (dataAddrs_inrReg r s) (exec_inrReg r s)
  case dcrReg => exact fun r => eq_access_dataAddrs (dataAddrs_dcrReg r s) (exec_dcrReg r s)
  case inx => exact fun p => eq_access_dataAddrs (dataAddrs_inx p s) (exec_inx p s)
  case dcx => exact fun p => eq_access_dataAddrs (dataAddrs_dcx p s) (exec_dcx p s)
  case dad => exact fun p => eq_access_dataAddrs (dataAddrs_dad p s) (exec_dad p s)
  case jcc => exact fun k a16 => eq_access_dataAddrs (dataAddrs_jcc k a16 s) (exec_jcc_eq_jumpTo k a16 s)
  case ccc =>
    exact fun k a16 => eq_access_dataAddrs (dataAddrs_ccc k a16 s) ((exec_ccc k a16 s).trans (whenCond_eq_access _))
  case rcc => exact fun k => eq_access_dataAddrs (dataAddrs_rcc k s) ((exec_rcc k s).trans (whenCond_eq_access _))
  case rst => exact fun n => eq_access_dataAddrs (dataAddrs_rst n s) (exec_rst n s)
  case push => exact fun p => eq_access_dataAddrs (dataAddrs_push p s) (exec_push p s)
  case pop => exact fun p => eq_access_dataAddrs (dataAddrs_pop p s) (exec_pop p s)
  all_goals
    intros
    exact ⟨_, rfl⟩

/-- An instruction that answers next found a byte at each of its data addresses. -/
theorem hasByte_dataAddrs_of_next {i : Instr} {s t : State} (h : exec i s = .next t) :
    ∀ w ∈ dataAddrs i s, s.hasByte w := by
  obtain ⟨u, he⟩ := exec_eq_access i s
  exact (access_eq_next (he ▸ h)).1

/-- Keeping A, as the compares do, is writing A with what it holds. -/
@[simp] theorem ite_setReg_a (c : Prop) [Decidable c] (s : State) (v : Byte) :
    (if c then s else s.setReg .a v) = s.setReg .a (if c then s.a else v) := by
  split <;> rfl

/-! ### Memory (R58, R60) -/

/-- The second memory is the first with bytes written at some of these addresses. -/
inductive WritesAt (addrs : List Word) (m : Memory) : Memory → Prop where
  | refl : WritesAt addrs m m
  | write {n : Memory} {addr : Word} (v : Byte) (hn : WritesAt addrs m n) (ha : addr ∈ addrs) :
      WritesAt addrs m (n.write addr.toNat v)

namespace WritesAt

variable {addrs : List Word} {m n : Memory} (h : WritesAt addrs m n)
include h

theorem wf (hm : Memory.wf m) : Memory.wf n := by
  induction h with
  | refl => exact hm
  | write v _ _ ih => exact Memory.wf_write ih

theorem bounded {bound : Nat} (hm : ∀ cell ∈ m, cell.1 < bound) (ha : ∀ w ∈ addrs, w.toNat < bound) :
    ∀ cell ∈ n, cell.1 < bound := by
  induction h with
  | refl => exact hm
  | write v _ hmem ih => exact Memory.bounded_write ih (ha _ hmem)

theorem read_of_outside {addr : Nat} (ha : ∀ w ∈ addrs, addr ≠ w.toNat) : n.read addr = m.read addr := by
  induction h with
  | refl => rfl
  | write v _ hmem ih => exact (Memory.read_write_of_ne (ha _ hmem)).trans ih

end WritesAt

theorem writesAt_writeByte (s : State) (addr : Word) (v : Byte) : WritesAt [addr] s.mem (s.writeByte addr v).mem :=
  .write v .refl (List.mem_singleton_self addr)

theorem writesAt_writeWord (s : State) (addr v : Word) : WritesAt [addr, addr + 1] s.mem (s.writeWord addr v).mem :=
  .write _ (.write _ .refl (by simp)) (by simp)

theorem writesAt_push16 (s : State) (v : Word) : WritesAt s.pushAddrs s.mem (s.push16 v).mem :=
  .write _ (.write _ .refl (by simp [State.pushAddrs])) (by simp [State.pushAddrs])

/-- What an instruction does to memory: writes at its data addresses, and only if it stores. -/
def StoresOnlyIfListed (i : Instr) (s t : State) : Prop :=
  WritesAt (dataAddrs i s) s.mem t.mem ∧ (¬ Stores i → t.mem = s.mem)

theorem storesOnlyIfListed_of_mem_eq {i : Instr} {s t : State} (h : t.mem = s.mem) : StoresOnlyIfListed i s t :=
  ⟨h ▸ .refl, fun _ => h⟩

theorem storesOnlyIfListed_of_stores {i : Instr} {s t : State} {addrs : List Word} (hi : Stores i)
    (hd : dataAddrs i s = addrs) (h : WritesAt addrs s.mem t.mem) : StoresOnlyIfListed i s t :=
  ⟨hd ▸ h, fun hn => absurd hi hn⟩

theorem exec_storesOnlyIfListed {i : Instr} {s t : State} (h : exec i s = .next t) : StoresOnlyIfListed i s t := by
  apply exec_next_induction StoresOnlyIfListed s (h := h)
  case movToM =>
    exact fun src => storesOnlyIfListed_of_stores (by simp [Stores]) (dataAddrs_movToM src s) (writesAt_writeByte s _ _)
  case mviM => exact fun d8 => storesOnlyIfListed_of_stores (by simp [Stores]) rfl (writesAt_writeByte s _ _)
  case inrM => exact storesOnlyIfListed_of_stores (by simp [Stores]) rfl (writesAt_writeByte s s.hl _)
  case dcrM => exact storesOnlyIfListed_of_stores (by simp [Stores]) rfl (writesAt_writeByte s s.hl _)
  case sta => exact fun a16 => storesOnlyIfListed_of_stores (by simp [Stores]) rfl (writesAt_writeByte s a16 _)
  case staxB => exact storesOnlyIfListed_of_stores (by simp [Stores]) rfl (writesAt_writeByte s _ _)
  case staxD => exact storesOnlyIfListed_of_stores (by simp [Stores]) rfl (writesAt_writeByte s _ _)
  case shld => exact fun a16 => storesOnlyIfListed_of_stores (by simp [Stores]) rfl (writesAt_writeWord s a16 _)
  case xthl =>
    exact storesOnlyIfListed_of_stores (by simp [Stores]) rfl (writesAt_writeWord s s.sp s.hl)
  case push =>
    exact fun p => storesOnlyIfListed_of_stores (by simp [Stores]) (dataAddrs_push p s) (writesAt_push16 s _)
  case call => exact fun a16 => storesOnlyIfListed_of_stores (by simp [Stores]) rfl (writesAt_push16 s s.pc)
  case rst =>
    exact fun n => storesOnlyIfListed_of_stores (by simp [Stores]) (dataAddrs_rst n s) (writesAt_push16 s s.pc)
  case ccc =>
    exact fun k a16 htaken => storesOnlyIfListed_of_stores (by simp [Stores])
      ((dataAddrs_ccc k a16 s).trans (if_pos htaken)) (writesAt_push16 s s.pc)
  all_goals
    intros
    exact storesOnlyIfListed_of_mem_eq (by simp)

end Machine

open Machine

/-- Settles O10: an instruction is one access to its data addresses. -/
theorem missingDataAddressFaults : Obligations.MissingDataAddressFaults := by
  intro i s
  obtain ⟨t, he⟩ := exec_eq_access i s
  exact faultsOnMissing_of_access he

/-- Settles O11: an access to bytes that exist has its effect, a next state. -/
theorem everyInstructionAnswersWhenItsBytesExist : Obligations.EveryInstructionAnswersWhenItsBytesExist := by
  intro i s hb
  obtain ⟨t, he⟩ := exec_eq_access i s
  exact ⟨t, exec_eq_effect_of_hasBytes he hb⟩

/-- Settles O20: every write is at a data address, and of an instruction that stores. -/
theorem memoryChangesOnlyWhereInstructionsStore : Obligations.MemoryChangesOnlyWhereInstructionsStore := by
  intro i s t h
  obtain ⟨hw, hkept⟩ := exec_storesOnlyIfListed h
  exact ⟨fun hn addr => by rw [hkept hn], fun addr ha => hw.read_of_outside ha⟩

end Sys2Proof
end

section
/-! Writers over all instructions (10_state.md sections 1 to 5): only the instructions that the spec's tables list write a flag,
a register, PC or SP. -/
namespace Sys2Proof

namespace Machine

/-! ### Flags (R26, R32) -/

/-- What an instruction does to F: nothing if the flag table does not list it, and nothing to bits 5, 3 and 1 but for
POP PSW. -/
def FlagsOnlyIfListed (i : Instr) (s t : State) : Prop :=
  (¬ MayWriteFlags i → t.f = s.f) ∧
  (i ≠ .popPsw → t.f.getLsbD 5 = s.f.getLsbD 5 ∧ t.f.getLsbD 3 = s.f.getLsbD 3 ∧ t.f.getLsbD 1 = s.f.getLsbD 1)

theorem flagsOnlyIfListed_of_f_eq {i : Instr} {s t : State} (h : t.f = s.f) : FlagsOnlyIfListed i s t :=
  ⟨fun _ => h, fun _ => by simp [h]⟩

/-- Bits 5, 3 and 1 are no flag's (R25, R26). -/
theorem flagBit_ne_of_reserved {k : Nat} (hk : k ∈ [5, 3, 1]) (fl : Flag) : k ≠ flagBit fl := by
  revert k
  cases fl <;> decide

/-- A listed instruction that changes some flags of F, after writes that keep F. -/
theorem flagsOnlyIfListed_of_flagBits {i : Instr} {fls : List Flag} {s t u : State} (hi : MayWriteFlags i)
    (hf : t.f = s.f) (h : FlagBitsKeptExcept fls t u) : FlagsOnlyIfListed i s u := by
  have hbit : ∀ k ∈ [5, 3, 1], u.f.getLsbD k = s.f.getLsbD k := fun k hk =>
    hf ▸ h k fun hm => by
      obtain ⟨fl, -, rfl⟩ := List.mem_map.mp hm
      exact flagBit_ne_of_reserved hk fl rfl
  exact ⟨fun hn => absurd hi hn, fun _ => ⟨hbit 5 (by simp), hbit 3 (by simp), hbit 1 (by simp)⟩⟩

theorem exec_flagsOnlyIfListed {i : Instr} {s t : State} (h : exec i s = .next t) : FlagsOnlyIfListed i s t := by
  apply exec_next_induction FlagsOnlyIfListed s (h := h)
  case alu =>
    intro op src
    rw [ite_setReg_a]
    exact flagsOnlyIfListed_of_flagBits (by simp [MayWriteFlags]) (setReg_f _ _ _) (setFlags_bits _ _)
  case daa => exact flagsOnlyIfListed_of_flagBits (by simp [MayWriteFlags]) (setReg_f _ _ _) (setFlags_bits _ _)
  case inrReg | dcrReg =>
    exact fun r =>
      flagsOnlyIfListed_of_flagBits (by simp [MayWriteFlags]) (setReg_f _ _ _) (setFlagsKeepCy_bits _ _)
  case inrM | dcrM =>
    exact flagsOnlyIfListed_of_flagBits (by simp [MayWriteFlags]) (writeByte_f _ _ _) (setFlagsKeepCy_bits _ _)
  case dad =>
    exact fun p => flagsOnlyIfListed_of_flagBits (by simp [MayWriteFlags]) (setPair_f _ _ _) (setFlag_bits _ _ _)
  case rlc | rrc | ral | rar =>
    exact flagsOnlyIfListed_of_flagBits (by simp [MayWriteFlags]) (setReg_f _ _ _) (setFlag_bits _ _ _)
  case cmc | stc => exact flagsOnlyIfListed_of_flagBits (by simp [MayWriteFlags]) rfl (setFlag_bits s _ _)
  case pop =>
    intro p
    cases p with
    | psw => exact ⟨fun hn => absurd (by simp [MayWriteFlags, Instr.pop]) hn, fun hne => absurd rfl hne⟩
    | bc | de | hl => exact flagsOnlyIfListed_of_f_eq rfl
  all_goals
    intros
    exact flagsOnlyIfListed_of_f_eq (by simp)

/-! ### Registers (R22) -/

/-- What an instruction does to the registers: it leaves each that the write table does not list it for. -/
def RegsOnlyIfListed (i : Instr) (s t : State) : Prop := ∀ r, ¬ MayWriteReg i r → t.reg r = s.reg r

theorem regsOnlyIfListed_of_keptExcept {i : Instr} {rs : List Reg8} {fls : List Flag} {s t : State}
    (h : KeptExcept rs fls s t) (hi : ∀ r ∈ rs, MayWriteReg i r) : RegsOnlyIfListed i s t :=
  fun r hn => h.1 r fun hm => hn (hi r hm)

theorem regsOnlyIfListed_of_setReg {i : Instr} (s : State) {r : Reg8} (v : Byte) (hi : MayWriteReg i r) :
    RegsOnlyIfListed i s (s.setReg r v) :=
  regsOnlyIfListed_of_keptExcept (keptExcept_setReg s r v) (List.forall_mem_singleton.mpr hi)

theorem regsOnlyIfListed_of_setPair {i : Instr} (s : State) {p : Pair} (v : Word)
    (hi : ∀ r ∈ p.halves, MayWriteReg i r) : RegsOnlyIfListed i s (s.setPair p v) :=
  regsOnlyIfListed_of_keptExcept (keptExcept_setPair s p v) hi

theorem mayWriteReg_alu {op : AluOp} (hop : op ≠ .cmp) (src : Operand8) : MayWriteReg (.alu op src) .a :=
  .inr (.inr (.inr (.inr (.inr (.inl ⟨rfl, .inr (.inr (.inr (.inl ⟨op, src, hop, rfl⟩)))⟩)))))

/-- Only the registers of the two states count. -/
theorem RegsOnlyIfListed.congr {i : Instr} {s s' t t' : State} (h : RegsOnlyIfListed i s t)
    (hs : ∀ r, s'.reg r = s.reg r) (ht : ∀ r, t'.reg r = t.reg r) : RegsOnlyIfListed i s' t' :=
  fun r hn => (ht r).trans ((h r hn).trans (hs r).symm)

theorem exec_regsOnlyIfListed {i : Instr} {s t : State} (h : exec i s = .next t) : RegsOnlyIfListed i s t := by
  have hsame : ∀ r, s.reg r = s.reg r := fun _ => rfl
  apply exec_next_induction RegsOnlyIfListed s (h := h)
  case movReg => exact fun dst src => regsOnlyIfListed_of_setReg s _ (by simp [MayWriteReg])
  case movFromM => exact fun dst => regsOnlyIfListed_of_setReg s _ (by simp [MayWriteReg])
  case mviReg => exact fun dst d8 => regsOnlyIfListed_of_setReg s _ (by simp [MayWriteReg])
  case lda => exact fun a16 => regsOnlyIfListed_of_setReg s _ (by simp [MayWriteReg])
  case ldaxB | ldaxD | cma => exact regsOnlyIfListed_of_setReg s _ (by simp [MayWriteReg])
  case inrReg | dcrReg =>
    exact fun r => (regsOnlyIfListed_of_setReg s _ (by simp [MayWriteReg])).congr hsame (setFlagsKeepCy_reg _ _)
  case alu =>
    intro op src
    by_cases hop : op = .cmp
    · exact fun r _ => by simp [hop, State.reg]
    · rw [if_neg hop]
      exact (regsOnlyIfListed_of_setReg s _ (mayWriteReg_alu hop src)).congr hsame (setFlags_reg _ _)
  case daa => exact (regsOnlyIfListed_of_setReg s _ (by simp [MayWriteReg])).congr hsame (setFlags_reg _ _)
  case rlc | rrc | ral | rar =>
    exact (regsOnlyIfListed_of_setReg s _ (by simp [MayWriteReg])).congr hsame (setFlag_reg _ _ _)
  case lxi =>
    exact fun p d16 => regsOnlyIfListed_of_setPair s _ (by cases p <;> simp [Pair.halves, MayWriteReg, Instr.lxi])
  case inx =>
    exact fun p => regsOnlyIfListed_of_setPair s _ (by cases p <;> simp [Pair.halves, MayWriteReg, Instr.inx])
  case dcx =>
    exact fun p => regsOnlyIfListed_of_setPair s _ (by cases p <;> simp [Pair.halves, MayWriteReg, Instr.dcx])
  case dad =>
    exact fun p => (regsOnlyIfListed_of_setPair s _ (by simp [Pair.halves, MayWriteReg])).congr hsame (setFlag_reg _ _ _)
  case lhld => exact fun a16 => regsOnlyIfListed_of_setPair s _ (by simp [Pair.halves, MayWriteReg])
  case xchg =>
    exact regsOnlyIfListed_of_keptExcept ((keptExcept_setPair s .hl _).trans_append (keptExcept_setPair _ .de _))
      (by simp [Pair.halves, MayWriteReg])
  case xthl =>
    exact (regsOnlyIfListed_of_setPair (s.writeWord s.sp s.hl) _ (by simp [Pair.halves, MayWriteReg])).congr
      (fun r => (writeWord_reg s _ _ r).symm) (fun _ => rfl)
  case pop =>
    intro p
    refine RegsOnlyIfListed.congr (s := s.dropWord) ?_ (fun r => (dropWord_reg s r).symm) (fun _ => rfl)
    cases p with
    | psw =>
      exact (regsOnlyIfListed_of_setReg (r := .a) s.dropWord _ (by simp [MayWriteReg, Instr.pop])).congr
        (fun _ => rfl) (fun r => by cases r <;> rfl)
    | bc => exact regsOnlyIfListed_of_setPair (p := .bc) s.dropWord _ (by simp [Pair.halves, MayWriteReg, Instr.pop])
    | de => exact regsOnlyIfListed_of_setPair (p := .de) s.dropWord _ (by simp [Pair.halves, MayWriteReg, Instr.pop])
    | hl => exact regsOnlyIfListed_of_setPair (p := .hl) s.dropWord _ (by simp [Pair.halves, MayWriteReg, Instr.pop])
  case inTake =>
    exact fun port v rest _ =>
      (regsOnlyIfListed_of_setReg (r := .a) s v (by simp [MayWriteReg])).congr hsame (fun r => by cases r <;> rfl)
  all_goals
    intros
    exact fun r _ => reg_congr rfl rfl rfl rfl rfl rfl rfl r

/-! ### PC and SP (R34, R36) -/

/-- What an instruction does to PC and SP: it leaves each that the spec does not list it for. -/
def PcAndSpOnlyIfListed (i : Instr) (s t : State) : Prop :=
  (¬ MayTransfer i → t.pc = s.pc) ∧ (¬ MayWriteSp i → t.sp = s.sp)

theorem exec_pcAndSpOnlyIfListed {i : Instr} {s t : State} (h : exec i s = .next t) : PcAndSpOnlyIfListed i s t := by
  apply exec_next_induction PcAndSpOnlyIfListed s (h := h)
  case jcc | jmp | pchl =>
    intros
    exact ⟨fun hn => absurd (by simp [MayTransfer]) hn, fun _ => rfl⟩
  case call | ccc | ret | rcc | rst =>
    intros
    exact ⟨fun hn => absurd (by simp [MayTransfer]) hn, fun hn => absurd (by simp [MayWriteSp]) hn⟩
  case push | pop =>
    intro p
    exact ⟨fun _ => by simp, fun hn => absurd (by simp [MayWriteSp]) hn⟩
  case sphl => exact ⟨fun _ => rfl, fun hn => absurd (by simp [MayWriteSp]) hn⟩
  case lxi =>
    exact fun p d16 => ⟨fun _ => setPair_pc s p _,
      fun hn => setPair_sp_of_ne (by rintro rfl; exact hn (.inl ⟨d16, rfl⟩)) s _⟩
  case inx =>
    exact fun p => ⟨fun _ => setPair_pc s p _,
      fun hn => setPair_sp_of_ne (by rintro rfl; exact hn (.inr (.inl rfl))) s _⟩
  case dcx =>
    exact fun p => ⟨fun _ => setPair_pc s p _,
      fun hn => setPair_sp_of_ne (by rintro rfl; exact hn (.inr (.inr (.inl rfl)))) s _⟩
  all_goals
    intros
    exact ⟨fun _ => by simp, fun _ => by simp⟩

end Machine

open Machine

/-! ### The obligations -/

/-- Settles O17: no flag of an unlisted instruction is written, and bits 5, 3 and 1 belong to no flag. -/
theorem flagBitsAreWrittenOnlyByTheirWriters : Obligations.FlagBitsAreWrittenOnlyByTheirWriters :=
  fun _ _ _ => exec_flagsOnlyIfListed

/-- Settles O18: each instruction's register writes are among those the table lists for it. -/
theorem registersAreWrittenOnlyByTheirWriters : Obligations.RegistersAreWrittenOnlyByTheirWriters :=
  fun _ _ _ r h => exec_regsOnlyIfListed h r

/-- Settles O19: each write of PC or SP is by an instruction listed for it. -/
theorem pcAndSpAreWrittenOnlyByTheirWriters : Obligations.PcAndSpAreWrittenOnlyByTheirWriters :=
  fun _ _ _ => exec_pcAndSpOnlyIfListed

end Sys2Proof
end

section
/-! The engine and the host over all instructions (10_state.md section 7, 60_exceptions.md sections 5 and 6): what exec leaves of the
engine's own state, which instructions signal the host, and that breakpoints and the paused flag are not observed. -/
namespace Sys2Proof

namespace Machine

/-! ### What exec leaves of the engine -/

theorem exec_keeps_engine {i : Instr} {s t : State} (h : exec i s = .next t) :
    t.paused = s.paused ∧ t.breakpoints = s.breakpoints ∧ t.cfg = s.cfg := by
  apply exec_next_induction
    (fun _ s t => t.paused = s.paused ∧ t.breakpoints = s.breakpoints ∧ t.cfg = s.cfg) s (h := h)
  all_goals
    intros
    exact ⟨by simp, by simp, by simp⟩

/-- HLT and IN alone write the status, and none of them Paused or Faulted. -/
theorem exec_status_cases {i : Instr} {s t : State} (h : exec i s = .next t) :
    t.status = s.status ∨ t.status = .running ∨ t.status = .halted ∨ t.status = .blockedIn := by
  apply exec_next_induction
    (fun _ s t => t.status = s.status ∨ t.status = .running ∨ t.status = .halted ∨ t.status = .blockedIn) s (h := h)
  case inTake => exact fun _ _ _ _ => .inr (.inl rfl)
  case hlt => exact .inr (.inr (.inl rfl))
  case inWait => exact fun _ _ => .inr (.inr (.inr rfl))
  all_goals
    intros
    exact .inl (by simp)

/-! ### Events (R240, R270) -/

/-- What an instruction does to the host's side: one event at most, after those before, and nothing if it is not listed. -/
def SignalsOnlyIfListed (i : Instr) (s t : State) : Prop :=
  (∃ evs, t.events = s.events ++ evs ∧ evs.length ≤ 1) ∧ (¬ MaySignalHost i → HostKept s t)

theorem signalsOnlyIfListed_of_hostKept {i : Instr} {s t : State} (h : HostKept s t) : SignalsOnlyIfListed i s t :=
  ⟨⟨[], h.2.trans (List.append_nil _).symm, Nat.zero_le 1⟩, fun _ => h⟩

theorem signalsOnlyIfListed_of_event {i : Instr} {s t : State} {ev : HostEvent} (hi : MaySignalHost i)
    (h : t.events = s.events ++ [ev]) : SignalsOnlyIfListed i s t :=
  ⟨⟨[ev], h, Nat.le_refl 1⟩, fun hn => absurd hi hn⟩

theorem exec_signalsOnlyIfListed {i : Instr} {s t : State} (h : exec i s = .next t) : SignalsOnlyIfListed i s t := by
  apply exec_next_induction SignalsOnlyIfListed s (h := h)
  case inWait | inTake | outPort | ei | di | rim | sim =>
    intros
    exact signalsOnlyIfListed_of_event (by simp [MaySignalHost]) rfl
  all_goals
    intros
    exact signalsOnlyIfListed_of_hostKept ⟨by simp, by simp⟩

/-! ### Noninterference (R245) -/

/-- The state with another breakpoint set and paused flag. -/
def State.withDebug (s : State) (bps : List Word) (p : Bool) : State := { s with breakpoints := bps, paused := p }

/-- The outcome with that change made to its next state. -/
def withDebugNext (bps : List Word) (p : Bool) : Result → Result
  | .next t => .next (t.withDebug bps p)
  | .fault reason => .fault reason
  | .refused why => .refused why

section
variable (s : State) (bps : List Word) (p : Bool)

theorem access_withDebug (addrs : List Word) (t : State) :
    (s.withDebug bps p).access addrs (.next (t.withDebug bps p)) = withDebugNext bps p (s.access addrs (.next t)) := by
  have hmissing : (s.withDebug bps p).firstMissing addrs = s.firstMissing addrs := rfl
  unfold State.access
  rw [hmissing]
  split <;> rfl

theorem whenCond_withDebug (k : Cond) (transfer : Result) :
    whenCond k (withDebugNext bps p transfer) (s.withDebug bps p) = withDebugNext bps p (whenCond k transfer s) := by
  have hcond : (s.withDebug bps p).cond k = s.cond k := by cases k <;> rfl
  unfold whenCond
  rw [hcond]
  split <;> rfl

theorem setReg_withDebug (r : Reg8) (v : Byte) : (s.withDebug bps p).setReg r v = (s.setReg r v).withDebug bps p := by
  cases r <;> rfl

theorem reg_withDebug (r : Reg8) : (s.withDebug bps p).reg r = s.reg r := by
  cases r <;> rfl

theorem setPair_withDebug (q : Pair) (v : Word) : (s.withDebug bps p).setPair q v = (s.setPair q v).withDebug bps p := by
  cases q <;> rfl

theorem pairValue_withDebug (q : Pair) : (s.withDebug bps p).pairValue q = s.pairValue q := by
  cases q <;> rfl

theorem setStackPair_withDebug (q : StackPair) (v : Word) :
    (s.withDebug bps p).setStackPair q v = (s.setStackPair q v).withDebug bps p := by
  cases q <;> rfl

theorem stackPairValue_withDebug (q : StackPair) : (s.withDebug bps p).stackPairValue q = s.stackPairValue q := by
  cases q <;> rfl

theorem operandValue_withDebug (src : Operand8) : (s.withDebug bps p).operandValue src = s.operandValue src := by
  cases src with
  | reg r => exact reg_withDebug s bps p r
  | mem | imm => rfl

theorem dropWord_withDebug : (s.withDebug bps p).dropWord = s.dropWord.withDebug bps p := rfl

theorem operandAccess_withDebug (src : Operand8) : (s.withDebug bps p).operandAccess src = s.operandAccess src := by
  cases src <;> rfl

theorem resumeIn_withDebug : (s.withDebug bps p).resumeIn = s.resumeIn.withDebug bps p := by
  rcases resumeIn_cases s with ⟨v, rest, hs, hin, he⟩ | ⟨hwaits, he⟩
  · rw [he]
    simp [State.resumeIn, State.withDebug, hs, hin]
  · rcases resumeIn_cases (s.withDebug bps p) with ⟨v, rest, hs, hin, -⟩ | ⟨-, he'⟩
    · exact absurd hwaits (by simp_all [State.withDebug])
    · rw [he, he']

theorem callTo_withDebug (target : Word) :
    callTo target (s.withDebug bps p) = withDebugNext bps p (callTo target s) :=
  access_withDebug s bps p s.pushAddrs { s.push16 s.pc with pc := target }

theorem returnFromCall_withDebug :
    returnFromCall (s.withDebug bps p) = withDebugNext bps p (returnFromCall s) :=
  access_withDebug s bps p s.popAddrs { s.dropWord with pc := s.popValue }

theorem exec_withDebug (i : Instr) : exec i (s.withDebug bps p) = withDebugNext bps p (exec i s) := by
  revert i
  apply Instr.byFamily
  case movReg =>
    intro dst src
    rw [exec_movReg, exec_movReg, moveReg, reg_withDebug, setReg_withDebug]
    rfl
  case mviReg =>
    intro dst d8
    rw [exec_mviReg, exec_mviReg, moveImm, setReg_withDebug]
    rfl
  case lxi =>
    intro q d16
    rw [exec_lxi, exec_lxi, loadPairImm, setPair_withDebug]
    rfl
  case inrReg =>
    intro r
    rw [exec_inrReg, exec_inrReg, incrementReg, reg_withDebug, setReg_withDebug]
    rfl
  case dcrReg =>
    intro r
    rw [exec_dcrReg, exec_dcrReg, decrementReg, reg_withDebug, setReg_withDebug]
    rfl
  case inx =>
    intro q
    rw [exec_inx, exec_inx, addToPair, pairValue_withDebug, setPair_withDebug]
    rfl
  case dcx =>
    intro q
    rw [exec_dcx, exec_dcx, addToPair, pairValue_withDebug, setPair_withDebug]
    rfl
  case dad =>
    intro q
    rw [exec_dad, exec_dad, doubleAdd, pairValue_withDebug, setPair_withDebug]
    rfl
  case alu =>
    intro op src
    rw [exec_alu, exec_alu, aluOp, aluOp, operandValue_withDebug, operandAccess_withDebug, ite_setReg_a, ite_setReg_a,
      setReg_withDebug]
    exact access_withDebug s bps p (s.operandAccess src)
      ((s.setReg .a _).setFlags (aluResult op s.a (s.operandValue src) (s.flag .cy)))
  case movFromM =>
    intro dst
    rw [exec_movFromM, exec_movFromM, moveFromM, setReg_withDebug]
    exact access_withDebug s bps p [s.hl] (s.setReg dst (s.readByte s.hl))
  case movToM =>
    intro src
    rw [exec_movToM, exec_movToM, reg_withDebug]
    exact access_withDebug s bps p [s.hl] (s.writeByte s.hl (s.reg src))
  case push =>
    intro q
    rw [exec_push, exec_push, pushPair, stackPairValue_withDebug]
    exact access_withDebug s bps p s.pushAddrs (s.push16 (s.stackPairValue q))
  case pop =>
    intro q
    rw [exec_pop, exec_pop, popPair, dropWord_withDebug, setStackPair_withDebug]
    exact access_withDebug s bps p s.popAddrs (s.dropWord.setStackPair q s.popValue)
  case jcc =>
    intro k a16
    rw [exec_jcc, exec_jcc]
    exact whenCond_withDebug s bps p k (jumpTo a16 s)
  case ccc =>
    intro k a16
    rw [exec_ccc, exec_ccc, callTo_withDebug, whenCond_withDebug]
  case rcc =>
    intro k
    rw [exec_rcc, exec_rcc, returnFromCall_withDebug, whenCond_withDebug]
  case rst =>
    intro n
    rw [exec_rst, exec_rst, callTo_withDebug]
  case inPort =>
    intro port
    exact congrArg Host.Outcome.next (resumeIn_withDebug { s.emit (.inHook port) with status := .blockedIn } bps p)
  case call => exact callTo_withDebug s bps p
  case ret => exact returnFromCall_withDebug s bps p
  case mviM => exact fun d8 => access_withDebug s bps p [s.hl] (s.writeByte s.hl d8)
  case sta => exact fun a16 => access_withDebug s bps p [a16] (s.writeByte a16 s.a)
  case staxB => exact access_withDebug s bps p [s.pairValue .bc] (s.writeByte (s.pairValue .bc) s.a)
  case staxD => exact access_withDebug s bps p [s.pairValue .de] (s.writeByte (s.pairValue .de) s.a)
  case lda => exact fun a16 => access_withDebug s bps p [a16] (s.setReg .a (s.readByte a16))
  case ldaxB => exact access_withDebug s bps p [s.pairValue .bc] (s.setReg .a (s.readByte (s.pairValue .bc)))
  case ldaxD => exact access_withDebug s bps p [s.pairValue .de] (s.setReg .a (s.readByte (s.pairValue .de)))
  case lhld => exact fun a16 => access_withDebug s bps p [a16, a16 + 1] (s.setPair .hl (s.readWord a16))
  case shld => exact fun a16 => access_withDebug s bps p [a16, a16 + 1] (s.writeWord a16 s.hl)
  case xthl => exact access_withDebug s bps p s.popAddrs ((s.writeWord s.sp s.hl).setPair .hl s.popValue)
  case inrM =>
    exact access_withDebug s bps p [s.hl]
      ((s.writeByte s.hl (add8 (s.readByte s.hl) 1 false).res).setFlagsKeepCy (add8 (s.readByte s.hl) 1 false))
  case dcrM =>
    exact access_withDebug s bps p [s.hl]
      ((s.writeByte s.hl (sub8 (s.readByte s.hl) 1 false).res).setFlagsKeepCy (sub8 (s.readByte s.hl) 1 false))
  all_goals
    intros
    rfl

end

end Machine

open Machine

/-! ### The obligations -/

/-- Settles O23: every operation of exec commutes with the change. -/
theorem programsCannotObserveBreakpointsOrPaused : Obligations.ProgramsCannotObserveBreakpointsOrPaused :=
  fun i s bps p => exec_withDebug s bps p i

end Sys2Proof
end

section
/-! The fetch and the step (30_encoding.md section 3, 60_exceptions.md sections 1 and 3): what the bytes at PC make the fetch
answer, what one step does in each status, and the obligations. -/
namespace Sys2Proof

namespace Machine

/-! ### The fetch of an encoding (R85) -/

/-- The addresses of an instruction's bytes, PC first (R85). -/
theorem pc_cons_operandAddrs (pc : Word) (fmt : Format) :
    pc :: operandAddrs pc fmt = (List.range fmt.length).map fun k => pc + BitVec.ofNat 16 k := by
  cases fmt <;> simp [operandAddrs, Format.length, List.range_succ]

/-- When the bytes at PC exist and are an encoding, the fetch gives its instruction and the address after it. -/
theorem fetch_of_encode {s : State} {i : Instr} (h : ∀ k < (encode i).length, s.hasByte (s.pc + BitVec.ofNat 16 k) ∧
      (encode i)[k]? = some (s.readByte (s.pc + BitVec.ofNat 16 k))) :
    s.fetch = .ok { instr := i, next := s.pc + BitVec.ofNat 16 (encode i).length } := by
  obtain ⟨op, operands, hbytes⟩ := List.exists_cons_of_ne_nil (encode_ne_nil i)
  obtain ⟨fmt, hfmt, hlen⟩ := format_of_encode hbytes
  have hlength : (encode i).length = fmt.length := by simp [hbytes, hlen]
  have hexist : ∀ w ∈ s.pc :: operandAddrs s.pc fmt, s.hasByte w := by
    rw [pc_cons_operandAddrs]
    simpa [← hlength] using fun k hk => (h k hk).1
  have hread : (s.pc :: operandAddrs s.pc fmt).map s.readByte = encode i := by
    rw [pc_cons_operandAddrs, ← hlength]
    refine List.ext_getElem? fun k => ?_
    by_cases hk : k < (encode i).length
    · rw [(h k hk).2]
      simp [hk]
    · simp [hk]
  have hop : s.readByte s.pc = op := by
    rw [hbytes] at hread
    exact (List.cons.inj hread).1
  have hdecode : decode (encode i) = .ok (i, []) := by simpa using decodeOfEncodeIsTheInstruction i []
  rw [hlength]
  exact fetch_of_decode (hexist _ List.mem_cons_self) (hop ▸ hfmt) (fun w hw => hexist w (List.mem_cons_of_mem _ hw))
    ((congrArg decode hread).trans hdecode)

/-! ### The fetch that faults (R223 to R225) -/

section
variable {s : State}

theorem fetch_of_missing_pc (h : ¬ s.hasByte s.pc) : s.fetch = .error (.memoryOutOfRange s.pc) := by
  have hmissing : s.firstMissing [s.pc] = some s.pc := firstMissing_eq_some_iff.mpr ⟨[], [], rfl, by simp, h⟩
  simp [State.fetch, hmissing]

theorem firstMissing_pc_eq_none (h : s.hasByte s.pc) : s.firstMissing [s.pc] = none :=
  firstMissing_eq_none_iff.mpr (List.forall_mem_singleton.mpr h)

theorem fetch_of_illegal (h : s.hasByte s.pc) (hop : opFormat (s.readByte s.pc) = none) :
    s.fetch = .error (.illegalOpcode (s.readByte s.pc)) := by
  simp [State.fetch, firstMissing_pc_eq_none h, hop]

theorem fetch_of_missing_operand {fmt : Format} {addr : Word} (h : s.hasByte s.pc)
    (hop : opFormat (s.readByte s.pc) = some fmt) (hmissing : FirstMissingIs s (operandAddrs s.pc fmt) addr) :
    s.fetch = .error (.memoryOutOfRange addr) := by
  simp [State.fetch, firstMissing_pc_eq_none h, hop, firstMissing_eq_some_iff.mpr hmissing]

/-- The fetch faults with MemoryOutOfRange only where no byte exists (R223). -/
theorem not_hasByte_of_fetch {addr : Word} (h : s.fetch = .error (.memoryOutOfRange addr)) : ¬ s.hasByte addr := by
  have hmissing : ∀ {addrs : List Word}, s.firstMissing addrs = some addr → ¬ s.hasByte addr := fun hm => by
    obtain ⟨_, _, _, _, hn⟩ := firstMissing_eq_some_iff.mp hm
    exact hn
  unfold State.fetch at h
  split at h
  · next hm =>
    cases h
    exact hmissing hm
  · split at h
    · cases h
    · split at h
      · next hm =>
        cases h
        exact hmissing hm
      · split at h <;> cases h

end

/-! ### step_one and the stop check (R230, R231) -/

theorem stepOne_of_fetch_ok {s : State} {x : Fetched} (h : s.fetch = .ok x) :
    stepOne s = exec x.instr { s with pc := x.next } := by
  simp [stepOne, h]

theorem stepOne_of_fetch_error {s : State} {reason : Fault} (h : s.fetch = .error reason) :
    stepOne s = .fault reason := by
  simp [stepOne, h]

/-- All step_one can answer: a next state, or a fault, which is MemoryOutOfRange only where a byte is missing. -/
theorem stepOne_cases (s : State) :
    (∃ t, stepOne s = .next t) ∨
    ∃ reason, stepOne s = .fault reason ∧ ∀ addr, reason = .memoryOutOfRange addr → ¬ s.hasByte addr := by
  cases hf : s.fetch with
  | error reason =>
    exact .inr ⟨reason, stepOne_of_fetch_error hf, fun addr hr => not_hasByte_of_fetch (hr ▸ hf)⟩
  | ok x =>
    rw [stepOne_of_fetch_ok hf]
    rcases exec_cases x.instr { s with pc := x.next } with hnext | ⟨addr, hfault, hmissing⟩
    · exact .inl hnext
    · refine .inr ⟨_, hfault, ?_⟩
      rintro _ ⟨⟩
      exact hmissing

/-- step_one leaves the engine as exec does: nothing of it but the status, which is never Paused or Faulted after a step
that began Running. -/
theorem stepOne_keeps_engine {s t : State} (h : stepOne s = .next t) :
    t.paused = s.paused ∧ t.breakpoints = s.breakpoints ∧ t.cfg = s.cfg ∧
    (t.status = s.status ∨ t.status = .running ∨ t.status = .halted ∨ t.status = .blockedIn) := by
  obtain ⟨x, -, he⟩ := stepOne_eq_next h
  obtain ⟨hpaused, hbps, hcfg⟩ := exec_keeps_engine he
  exact ⟨hpaused, hbps, hcfg, exec_status_cases (s := { s with pc := x.next }) he⟩

theorem stopCheck_eq (s : State) (single : Bool) :
    s.stopCheck single =
      if s.status = .running ∧ (single = true ∨ s.pc ∈ s.breakpoints) then s.pause else s := by
  rcases stopCheck_cases s single with ⟨hrun, hstop, he⟩ | ⟨hno, he⟩
  · rw [he, if_pos ⟨hrun, hstop⟩]
  · rw [he, if_neg hno]

section
variable (s : State) (single : Bool)

@[simp] theorem stopCheck_breakpoints : (s.stopCheck single).breakpoints = s.breakpoints := by
  rw [stopCheck_eq]; split <;> rfl

@[simp] theorem stopCheck_cfg : (s.stopCheck single).cfg = s.cfg := by
  rw [stopCheck_eq]; split <;> rfl

@[simp] theorem stopCheck_events : (s.stopCheck single).events = s.events := by
  rw [stopCheck_eq]; split <;> rfl

@[simp] theorem resumeIn_breakpoints : s.resumeIn.breakpoints = s.breakpoints := by
  rcases resumeIn_cases s with ⟨v, rest, -, -, he⟩ | ⟨-, he⟩ <;> rw [he]

@[simp] theorem resumeIn_cfg : s.resumeIn.cfg = s.cfg := by
  rcases resumeIn_cases s with ⟨v, rest, -, -, he⟩ | ⟨-, he⟩ <;> rw [he]

@[simp] theorem resumeIn_events : s.resumeIn.events = s.events := by
  rcases resumeIn_cases s with ⟨v, rest, -, -, he⟩ | ⟨-, he⟩ <;> rw [he]

end

theorem stopCheck_status_of_faulted {s : State} {single : Bool} {reason : Fault} {pc0 : Word}
    (h : (s.stopCheck single).status = .faulted reason pc0) : s.status = .faulted reason pc0 := by
  rw [stopCheck_eq] at h
  split at h
  · cases h
  · exact h

/-! ### One step -/

/-- A step of an active engine whose fetch faults takes that fault (R222). -/
theorem step_of_fetch_error {s : State} {reason : Fault} (hactive : s.active) (h : s.fetch = .error reason) :
    step s = .next (s.afterFault reason) := by
  rw [step, iterate_of_active hactive, stepOne_of_fetch_error (s := s.enterRun) h]
  rfl

/-- A turn answers a next state from every state. -/
theorem iterate_total (single : Bool) (s : State) : ∃ t, iterate single s = .next t := by
  have hrun : ∃ t, settle single s.enterRun (stepOne s.enterRun) = .next t := by
    rcases stepOne_cases s.enterRun with ⟨t, h⟩ | ⟨reason, h, -⟩ <;> rw [h] <;> exact ⟨_, rfl⟩
  unfold iterate
  split
  · exact hrun
  · exact hrun
  all_goals exact ⟨_, rfl⟩

/-- A step that leaves the engine Faulted: it was Faulted so before, or the step began active and took the fault of its
one instruction. -/
theorem step_faulted_cases {s t : State} {reason : Fault} {pc0 : Word} (h : step s = .next t)
    (ht : t.status = .faulted reason pc0) :
    t = s ∨ (s.active ∧ stepOne s.enterRun = .fault reason ∧ pc0 = s.pc ∧ t = s.afterFault reason) := by
  obtain ⟨hactive, ⟨u, hu, rfl⟩ | ⟨r, hr, rfl⟩⟩ | ⟨hblocked, rfl⟩ | ⟨-, -, rfl⟩ := iterate_eq_next h
  · have hu' := stopCheck_status_of_faulted ht
    obtain ⟨-, -, -, hstatus⟩ := stepOne_keeps_engine hu
    simp [hu'] at hstatus
  · obtain ⟨rfl, rfl⟩ := Status.faulted.inj ht
    exact .inr ⟨hactive, hr, rfl, rfl⟩
  · have hres := stopCheck_status_of_faulted ht
    rcases resumeIn_cases s with ⟨v, rest, -, -, he⟩ | ⟨-, he⟩ <;> simp [he, hblocked] at hres
  · exact .inl rfl

theorem iterate_keeps_breakpoints_cfg {single : Bool} {s t : State} (h : iterate single s = .next t) :
    t.breakpoints = s.breakpoints ∧ t.cfg = s.cfg := by
  obtain ⟨-, ⟨u, hu, rfl⟩ | ⟨r, -, rfl⟩⟩ | ⟨-, rfl⟩ | ⟨-, -, rfl⟩ := iterate_eq_next h
  · obtain ⟨-, hbps, hcfg, -⟩ := stepOne_keeps_engine hu
    exact ⟨(stopCheck_breakpoints u single).trans hbps, (stopCheck_cfg u single).trans hcfg⟩
  · exact ⟨rfl, rfl⟩
  · exact ⟨by simp, by simp⟩
  · exact ⟨rfl, rfl⟩

theorem step_events {s t : State} (h : step s = .next t) : ∃ evs, t.events = s.events ++ evs ∧ evs.length ≤ 1 := by
  have hsame : ∀ {u : State}, u.events = s.events → ∃ evs, u.events = s.events ++ evs ∧ evs.length ≤ 1 :=
    fun hu => ⟨[], hu.trans (List.append_nil _).symm, Nat.zero_le 1⟩
  obtain ⟨-, ⟨u, hu, rfl⟩ | ⟨r, -, rfl⟩⟩ | ⟨-, rfl⟩ | ⟨-, -, rfl⟩ := iterate_eq_next h
  · obtain ⟨x, -, he⟩ := stepOne_eq_next hu
    obtain ⟨hevents, -⟩ := exec_signalsOnlyIfListed he
    simpa using hevents
  · exact hsame rfl
  · exact hsame (by simp)
  · exact hsame rfl

/-- A Halted or Faulted engine stays as it is (R231, R242). -/
theorem iterate_of_stopped {single : Bool} {s : State}
    (h : s.status = .halted ∨ ∃ reason pc0, s.status = .faulted reason pc0) : iterate single s = .next s := by
  obtain hs | ⟨reason, pc0, hs⟩ := h <;> simp [iterate, hs]

theorem run_of_stopped {single : Bool} {s : State} (turns : Nat)
    (h : s.status = .halted ∨ ∃ reason pc0, s.status = .faulted reason pc0) : run turns single s = .next s := by
  obtain hs | ⟨reason, pc0, hs⟩ := h <;> simp [run, hs]

end Machine

open Machine

/-! ### The obligations -/

/-- Settles O6: the bytes at PC are the encoding of i, so that the step is exec of i, checked or its fault taken. -/
theorem stepRunsTheDecodedInstruction : Obligations.StepRunsTheDecodedInstruction := by
  intro s i rest hactive hdecode hexist
  have hbytes := encodeOfDecodeIsTheBytes _ _ _ hdecode
  have hfetch : s.enterRun.fetch = .ok { instr := i, next := s.pc + BitVec.ofNat 16 (encode i).length } := by
    refine fetch_of_encode (s := s.enterRun) fun k hk => ⟨hexist k hk, ?_⟩
    rw [← List.getElem?_append_left hk (l₂ := rest), hbytes]
    have hk3 : k < 3 := by
      have hlength := congrArg List.length hbytes
      simp only [List.length_append, List.length_cons, List.length_nil] at hlength
      omega
    interval_cases k
    · exact congrArg (fun addr => some (s.readByte addr)) (BitVec.add_zero s.pc).symm
    · rfl
    · rfl
  rw [step, iterate_of_active hactive, stepOne_of_fetch_ok hfetch]
  show settle false s.enterRun (exec i { s with
    pc := s.pc + BitVec.ofNat 16 (encode i).length, status := .running, paused := false }) = _
  split
  · next t ht =>
    rw [ht, settle, stopCheck_eq]
    simp [State.pause]
  · next reason hr =>
    rw [hr]
    rfl
  · next why hw =>
    rw [hw]
    rfl

/-- Settles O7: the loop makes no turn of such an engine. -/
theorem haltedOrFaultedEngineTakesNoStep : Obligations.HaltedOrFaultedEngineTakesNoStep :=
  fun _ turns _ hs => ⟨iterate_of_stopped hs, run_of_stopped turns hs⟩

/-- Settles O8: the one way to become Faulted is the fault of the step's own instruction. -/
theorem faultsArePrecise : Obligations.FaultsArePrecise := by
  intro s t reason pc0 h ht
  obtain rfl | ⟨hactive, -, hpc, rfl⟩ := step_faulted_cases h ht
  · exact .inl rfl
  · exact .inr ⟨hactive, hpc, rfl⟩

/-- Settles O9: the four checks of the fetch, each where the checks before it pass. -/
theorem fetchFaultsInOrder : Obligations.FetchFaultsInOrder := by
  intro s hactive
  refine ⟨fun hpc => step_of_fetch_error hactive (fetch_of_missing_pc hpc),
    fun hpc hop => step_of_fetch_error hactive (fetch_of_illegal hpc ((opFormat_eq_none_iff _).mpr hop)), ?_, ?_⟩
  · intro i operands hpc hbytes hlen h1
    obtain ⟨fmt, hfmt, hlength⟩ := format_of_encode hbytes
    refine step_of_fetch_error hactive (fetch_of_missing_operand hpc hfmt ?_)
    cases fmt with
    | i1 =>
      have hone : 1 = operands.length + 1 := hlength
      omega
    | i2 => exact ⟨[], [], rfl, by simp, h1⟩
    | i3 => exact ⟨[], [s.pc + 2], rfl, by simp, h1⟩
  · intro i operands hpc hbytes hlen h1 h2
    obtain ⟨fmt, hfmt, hlength⟩ := format_of_encode hbytes
    obtain rfl : fmt = .i3 := (fmt.length_eq_three_iff).mp (by omega)
    exact step_of_fetch_error hactive
      (fetch_of_missing_operand hpc hfmt ⟨[s.pc + 1], [], rfl, by simpa using h1, h2⟩)

/-- Settles O12: a turn answers a next state. -/
theorem everyStepAnswersANextState : Obligations.EveryStepAnswersANextState := iterate_total false

/-- Settles O13: a MemoryOutOfRange names an address without a byte, and with 64 KB every address has one. -/
theorem fullMemoryNeverFaultsOutOfRange : Obligations.FullMemoryNeverFaultsOutOfRange := by
  intro s t addr pc0 hfull hnot h ht
  obtain rfl | ⟨-, hfault, -, -⟩ := step_faulted_cases h ht
  · simp [State.isFaulted, ht] at hnot
  · obtain ⟨u, hu⟩ | ⟨reason, hreason, hmissing⟩ := stepOne_cases s.enterRun
    · simp [hu] at hfault
    · obtain rfl : reason = .memoryOutOfRange addr := by simpa [hreason] using hfault
      have hall : addr.toNat < s.cfg.memSize := hfull ▸ addr.isLt
      exact hmissing addr rfl hall

/-- Settles O21: no turn changes them. -/
theorem stepsKeepBreakpointsAndParameters : Obligations.StepsKeepBreakpointsAndParameters :=
  fun _ _ => iterate_keeps_breakpoints_cfg

/-- Settles O22: a step sends what its one instruction sends. -/
theorem eventsAreAppendedByTheirInstructions : Obligations.EventsAreAppendedByTheirInstructions :=
  ⟨fun _ _ => step_events, fun _ _ _ h => (exec_signalsOnlyIfListed h).2⟩

end Sys2Proof
end

section
/-! The invariant (10_state.md section 7, 20_memory.md section 1): reset meets it, and every turn and every action of the host
keeps it; the obligations. -/
namespace Sys2Proof

namespace Machine

variable {s t : State}

/-! ### What the invariant looks at -/

/-- The invariant looks at the parameters, memory, the breakpoints, and at paused beside the status. -/
theorem inv_of_eq (hs : s.Inv) (hcfg : t.cfg = s.cfg) (hmem : t.mem = s.mem) (hbps : t.breakpoints = s.breakpoints)
    (hp : t.paused = true ↔ t.status = .paused) : t.Inv := by
  obtain ⟨hwf, hcanon, hbound, -, hnodup, hcap⟩ := hs
  rw [State.Inv, hcfg, hmem, hbps]
  exact ⟨hwf, hcanon, hbound, hp, hnodup, hcap⟩

theorem inv_of_mem (hs : s.Inv) {m : Memory} (hcanon : Memory.wf m) (hbound : ∀ cell ∈ m, cell.1 < s.cfg.memSize) :
    State.Inv { s with mem := m } := by
  obtain ⟨hwf, -, -, hp, hnodup, hcap⟩ := hs
  exact ⟨hwf, hcanon, hbound, hp, hnodup, hcap⟩

theorem inv_of_breakpoints (hs : s.Inv) {bps : List Word} (hnodup : bps.Nodup) (hcap : bps.length ≤ s.cfg.bpCapacity) :
    State.Inv { s with breakpoints := bps } := by
  obtain ⟨hwf, hcanon, hbound, hp, -, -⟩ := hs
  exact ⟨hwf, hcanon, hbound, hp, hnodup, hcap⟩

theorem inv_paused_iff (hs : s.Inv) : s.paused = true ↔ s.status = .paused := by
  obtain ⟨-, -, -, hp, -, -⟩ := hs
  exact hp

theorem inv_mem (hs : s.Inv) : Memory.wf s.mem ∧ ∀ cell ∈ s.mem, cell.1 < s.cfg.memSize := by
  obtain ⟨-, hcanon, hbound, -, -, -⟩ := hs
  exact ⟨hcanon, hbound⟩

theorem inv_breakpoints (hs : s.Inv) : s.breakpoints.Nodup ∧ s.breakpoints.length ≤ s.cfg.bpCapacity := by
  obtain ⟨-, -, -, -, hnodup, hcap⟩ := hs
  exact ⟨hnodup, hcap⟩

/-! ### One turn -/

theorem enterRun_inv (hs : s.Inv) : s.enterRun.Inv := inv_of_eq hs rfl rfl rfl (by simp)

theorem stopCheck_inv (hs : s.Inv) (single : Bool) : (s.stopCheck single).Inv := by
  rw [stopCheck_eq]
  split
  · exact inv_of_eq hs rfl rfl rfl (by simp)
  · exact hs

theorem resumeIn_inv (hs : s.Inv) : s.resumeIn.Inv := by
  rcases resumeIn_cases s with ⟨v, rest, hblocked, -, he⟩ | ⟨-, he⟩ <;> rw [he]
  · refine inv_of_eq hs rfl rfl rfl ?_
    simpa [hblocked] using inv_paused_iff hs
  · exact hs

/-- A fault taken on a run just entered: paused is false and the status Faulted. -/
theorem takeFault_enterRun_inv (hs : s.Inv) (reason : Fault) : (s.enterRun.takeFault reason).Inv :=
  inv_of_eq hs rfl rfl rfl (by simp)

/-- An instruction run by a running engine: its writes are at addresses that exist, and it leaves paused false and the
status other than Paused. -/
theorem exec_inv {i : Instr} (hs : s.Inv) (hrun : s.status = .running) (h : exec i s = .next t) : t.Inv := by
  obtain ⟨hwf, hcanon, hbound, hp, hnodup, hcap⟩ := hs
  obtain ⟨hwrites, -⟩ := exec_storesOnlyIfListed h
  obtain ⟨hpaused, hbps, hcfg⟩ := exec_keeps_engine h
  have hstatus : t.status ≠ .paused := by
    have hcases := exec_status_cases h
    rw [hrun] at hcases
    intro he
    simp [he] at hcases
  have hfalse : t.paused ≠ true := by simpa [hpaused, hrun] using hp
  rw [State.Inv, hcfg, hbps]
  exact ⟨hwf, hwrites.wf hcanon, hwrites.bounded hbound (hasByte_dataAddrs_of_next h),
    iff_of_false hfalse hstatus, hnodup, hcap⟩

theorem iterate_inv {single : Bool} (hs : s.Inv) (h : iterate single s = .next t) : t.Inv := by
  obtain ⟨-, ⟨u, hu, rfl⟩ | ⟨r, -, rfl⟩⟩ | ⟨-, rfl⟩ | ⟨-, -, rfl⟩ := iterate_eq_next h
  · obtain ⟨x, -, he⟩ := stepOne_eq_next hu
    have hentered : State.Inv { s.enterRun with pc := x.next } :=
      inv_of_eq (enterRun_inv hs) rfl rfl rfl (by simp)
    exact stopCheck_inv (exec_inv hentered rfl he) single
  · exact takeFault_enterRun_inv hs r
  · exact stopCheck_inv (resumeIn_inv hs) single
  · exact hs

/-! ### The host's actions -/

theorem addBreakpoint_inv (hs : s.Inv) (addr : Word) : (s.addBreakpoint addr).1.Inv := by
  by_cases hmem : addr ∈ s.breakpoints
  · rwa [addBreakpoint_of_mem hmem]
  · obtain hfull | hroom := le_or_gt s.cfg.bpCapacity s.breakpoints.length
    · rwa [addBreakpoint_of_full hmem hfull]
    · rw [addBreakpoint_of_room hmem hroom]
      obtain ⟨hnodup, -⟩ := inv_breakpoints hs
      exact inv_of_breakpoints hs (List.concat_eq_append ▸ hnodup.concat hmem) (by simpa using hroom)

theorem removeBreakpoint_inv (hs : s.Inv) (addr : Word) : (s.removeBreakpoint addr).1.Inv := by
  by_cases hmem : addr ∈ s.breakpoints
  · rw [removeBreakpoint_of_mem hmem]
    obtain ⟨hnodup, hcap⟩ := inv_breakpoints hs
    exact inv_of_breakpoints hs (hnodup.erase addr) (List.length_erase_le.trans hcap)
  · rwa [removeBreakpoint_of_notMem hmem]

theorem writeBytes_inv (bytes : List Byte) {addr : Nat} (hs : s.Inv) (hfits : addr + bytes.length ≤ s.cfg.memSize) :
    (s.writeBytes addr bytes).Inv := by
  induction bytes generalizing s addr with
  | nil => exact hs
  | cons v rest ih =>
    rw [List.length_cons] at hfits
    obtain ⟨hcanon, hbound⟩ := inv_mem hs
    refine ih (inv_of_mem hs (Memory.wf_write hcanon) (Memory.bounded_write hbound (by omega))) ?_
    show addr + 1 + rest.length ≤ s.cfg.memSize
    omega

theorem loadImage_inv (hs : s.Inv) {img : Image} (h : s.loadImage img = some t) : t.Inv := by
  unfold State.loadImage at h
  split at h
  · next hfits =>
    cases h
    exact writeBytes_inv img.bytes hs (of_decide_eq_true hfits)
  · cases h

theorem run_inv {turns : Nat} {single : Bool} (hs : s.Inv) (h : run turns single s = .next t) : t.Inv :=
  run_keeps (P := State.Inv) (fun _ _ => iterate_inv) (fun _ => enterRun_inv) hs h

theorem run_of_stepCommand {turns : Nat} {r : Result} (h : stepCommand turns s = .ran r) : run turns true s = r := by
  unfold stepCommand at h
  split at h <;> cases h
  rfl

theorem run_of_continueCommand {turns : Nat} {r : Result} (h : continueCommand turns s = .ran r) :
    run turns false s = r := by
  unfold continueCommand at h
  split at h <;> cases h
  rfl

end Machine

open Machine

/-! ### The obligations -/

/-- Settles O14: no breakpoint and no byte is listed, and the status is Ready. -/
theorem resetMeetsTheInvariant : Obligations.ResetMeetsTheInvariant := by
  unfold Obligations.ResetMeetsTheInvariant
  decide

/-- Settles O15: a step is one turn. -/
theorem stepKeepsTheInvariant : Obligations.StepKeepsTheInvariant := fun _ _ => iterate_inv

/-- Settles O16: the runs are turns after the run is entered; the other actions change what the invariant looks at only
within its bounds. -/
theorem hostActionsKeepTheInvariant : Obligations.HostActionsKeepTheInvariant := by
  intro s hs
  refine ⟨inv_of_eq hs rfl rfl rfl (iff_of_false Bool.false_ne_true nofun), addBreakpoint_inv hs, removeBreakpoint_inv hs,
    fun v => inv_of_eq hs rfl rfl rfl (inv_paused_iff hs), fun img t => loadImage_inv hs, fun single t => iterate_inv hs,
    fun turns single t => run_inv hs, fun turns start t h => ?_, fun turns t h => run_inv hs (run_of_stepCommand h),
    fun turns t h => run_inv hs (run_of_continueCommand h)⟩
  exact run_inv (s := { s with pc := start, status := .ready, paused := false })
    (inv_of_eq hs rfl rfl rfl (by simp)) h

end Sys2Proof
end

section
/-! Stores seen by the next fetch (20_memory.md section 6): how memory reads after each instruction that stores, and the
obligation. -/
namespace Sys2Proof

namespace Machine

/-! ### Memory read after the stored bytes are in place -/

variable {s t : State}

theorem byteAfter_cons (addr : Word) (v : Byte) (bytes : List (Word × Byte)) (w : Word) :
    byteAfter s ((addr, v) :: bytes) w = if w = addr then v else byteAfter s bytes w := by
  by_cases hw : w = addr
  · simp [byteAfter, hw]
  · simp [byteAfter, List.lookup_cons, hw, beq_false_of_ne hw]

theorem readByte_of_memKeptOutside {addrs : List Word} (hkept : MemKeptOutside addrs s t) {w : Word} (hw : w ∉ addrs) :
    t.readByte w = s.readByte w :=
  hkept w.toNat fun _ ha he => hw (BitVec.eq_of_toNat_eq he ▸ ha)

theorem readByte_eq_byteAfter_one {addr : Word} {v : Byte} (hv : t.readByte addr = v) (hkept : MemKeptOutside [addr] s t)
    (w : Word) : t.readByte w = byteAfter s [(addr, v)] w := by
  rw [byteAfter_cons]
  split
  · next hw => rw [hw, hv]
  · next hw => exact readByte_of_memKeptOutside hkept (by simp [hw])

theorem readByte_eq_byteAfter_two {addr addr' : Word} {v v' : Byte} (hv : t.readByte addr = v)
    (hv' : t.readByte addr' = v') (hkept : MemKeptOutside [addr, addr'] s t) (w : Word) :
    t.readByte w = byteAfter s [(addr, v), (addr', v')] w := by
  rw [byteAfter_cons, byteAfter_cons]
  split
  · next hw => rw [hw, hv]
  · next hw =>
    split
    · next hw' => rw [hw', hv']
    · next hw' => exact readByte_of_memKeptOutside hkept (by simp [hw, hw'])

/-- The instruction completes, and memory and the parameters are then those of the state with the bytes stored. -/
def CompletesStoring (i : Instr) (s : State) (bytes : List (Word × Byte)) : Prop :=
  ∃ t, exec i s = .next t ∧ t.cfg = s.cfg ∧ ∀ w, t.readByte w = byteAfter s bytes w

theorem completesStoring_one {i : Instr} {addr : Word} {v : Byte} (he : exec i s = .next t) (hv : t.readByte addr = v)
    (hkept : MemKeptOutside [addr] s t) : CompletesStoring i s [(addr, v)] := by
  obtain ⟨-, -, hcfg⟩ := exec_keeps_engine he
  exact ⟨t, he, hcfg, readByte_eq_byteAfter_one hv hkept⟩

theorem completesStoring_two {i : Instr} {addr addr' : Word} {v v' : Byte} (he : exec i s = .next t)
    (hv : t.readByte addr = v) (hv' : t.readByte addr' = v') (hkept : MemKeptOutside [addr, addr'] s t) :
    CompletesStoring i s [(addr, v), (addr', v')] := by
  obtain ⟨-, -, hcfg⟩ := exec_keeps_engine he
  exact ⟨t, he, hcfg, readByte_eq_byteAfter_two hv hv' hkept⟩

/-- An instruction of one store to a checked address. -/
theorem completesStoring_of_storeByte {i : Instr} {addr : Word} {v : Byte} (he : exec i s = storeByte addr v s)
    (hm : Memory.wf s.mem) (hb : s.hasByte addr) : CompletesStoring i s [(addr, v)] := by
  obtain ⟨-, hcompletes⟩ := stores_of_storeByte he
  obtain ⟨t, het, hv, hkept, -⟩ := hcompletes hm hb
  exact completesStoring_one het hv hkept

/-- An instruction that stores a result at a checked address, and writes S, Z, AC and P of it (R136, R138). -/
theorem completesStoring_of_writeByte_setFlagsKeepCy {i : Instr} {addr : Word} {res : Byte} {ac cy : Bool}
    (he : exec i s = s.access [addr] (.next ((s.writeByte addr res).setFlagsKeepCy (withSzp res ac cy))))
    (hm : Memory.wf s.mem) (hb : s.hasByte addr) : CompletesStoring i s [(addr, res)] := by
  obtain ⟨-, hcompletes⟩ := completes_of_writeByte_setFlagsKeepCy he
  obtain ⟨t, het, hv, -, -, hkept, -⟩ := hcompletes hm hb
  exact completesStoring_one het hv hkept

/-- An instruction of one Push16 (R56). -/
theorem completesStoring_of_push16 {i : Instr} {v : Word} (he : exec i s = s.access s.pushAddrs (.next t))
    (hmem : t.mem = (s.push16 v).mem) (hm : Memory.wf s.mem) (hb : ∀ b ∈ pushedBytes s v, s.hasByte b.1) :
    CompletesStoring i s (pushedBytes s v) := by
  have hexist : ∀ w ∈ s.pushAddrs, s.hasByte w := by simpa [pushedBytes, State.pushAddrs] using hb
  obtain ⟨hhigh, hlow, hkept⟩ := push16_bytes (v := v) hm
  rw [State.readByte, ← hmem] at hhigh hlow
  exact completesStoring_two (exec_eq_effect_of_hasBytes he hexist) hhigh hlow (by rwa [MemKeptOutside, hmem])

/-- An instruction of one word written (R52). -/
theorem completesStoring_of_writeWord {i : Instr} {addr : Word} {x y : Byte}
    (he : exec i s = s.access [addr, addr + 1] (.next t)) (hmem : t.mem = (s.writeWord addr (pair x y)).mem)
    (hm : Memory.wf s.mem) (hb : ∀ b ∈ [(addr, y), (addr + 1, x)], s.hasByte b.1) :
    CompletesStoring i s [(addr, y), (addr + 1, x)] := by
  have hexist : ∀ w ∈ [addr, addr + 1], s.hasByte w := by simpa using hb
  obtain ⟨hlow, hhigh, hkept⟩ := writeWord_bytes (addr := addr) (v := pair x y) hm
  rw [State.readByte, ← hmem] at hhigh hlow
  exact completesStoring_two (exec_eq_effect_of_hasBytes he hexist) (hlow.trans (lo_pair x y))
    (hhigh.trans (hi_pair x y)) (by rwa [MemKeptOutside, hmem])

/-- Every instruction that stores, where its addresses exist (R58). -/
theorem completesStoring_of_storesBytes {i : Instr} {bytes : List (Word × Byte)} (h : StoresBytes i s bytes)
    (hm : Memory.wf s.mem) (hb : ∀ b ∈ bytes, s.hasByte b.1) : CompletesStoring i s bytes := by
  obtain ⟨src, rfl, rfl⟩ | ⟨d8, rfl, rfl⟩ | ⟨rfl, rfl⟩ | ⟨rfl, rfl⟩ | ⟨a16, rfl, rfl⟩ | ⟨rfl, rfl⟩ | ⟨rfl, rfl⟩ |
    ⟨a16, rfl, rfl⟩ | ⟨p, rfl, rfl⟩ | ⟨a16, rfl, rfl⟩ | ⟨k, a16, rfl, htaken, rfl⟩ | ⟨n, rfl, rfl⟩ | ⟨rfl, rfl⟩ := h
  · exact completesStoring_of_storeByte (exec_movToM src s) hm (hb _ (List.mem_singleton_self _))
  · exact completesStoring_of_storeByte (exec_mviM d8 s) hm (hb _ (List.mem_singleton_self _))
  · exact completesStoring_of_writeByte_setFlagsKeepCy ((exec_inrM s).trans (incrementM_eq s)) hm
      (hb _ (List.mem_singleton_self _))
  · exact completesStoring_of_writeByte_setFlagsKeepCy ((exec_dcrM s).trans (decrementM_eq s)) hm
      (hb _ (List.mem_singleton_self _))
  · exact completesStoring_of_storeByte (exec_sta a16 s) hm (hb _ (List.mem_singleton_self _))
  · exact completesStoring_of_storeByte (exec_staxB s) hm (hb _ (List.mem_singleton_self _))
  · exact completesStoring_of_storeByte (exec_staxD s) hm (hb _ (List.mem_singleton_self _))
  · exact completesStoring_of_writeWord (exec_shld a16 s) rfl hm hb
  · exact completesStoring_of_push16 (exec_push p s) rfl hm hb
  · exact completesStoring_of_push16 (exec_call a16 s) rfl hm hb
  · exact completesStoring_of_push16 ((exec_ccc k a16 s).trans (if_pos htaken)) rfl hm hb
  · exact completesStoring_of_push16 (exec_rst n s) rfl hm hb
  · exact completesStoring_of_writeWord (exec_xthl s) rfl hm hb

end Machine

open Machine

/-- Settles O52: after the instruction the bytes at PC are the stored ones where it stored. -/
theorem storesAreSeenByTheNextFetch : Obligations.StoresAreSeenByTheNextFetch := by
  intro i s bytes h hm hb
  obtain ⟨t, he, hcfg, hread⟩ := completesStoring_of_storesBytes h hm hb
  refine ⟨t, he, fun next hnext => fetch_of_encode fun k hk => ?_⟩
  obtain ⟨hexists, hbyte⟩ := hnext k hk
  exact ⟨by rwa [State.hasByte, hcfg], by rw [hbyte, hread]⟩

end Sys2Proof
end

section
/-! Input, output and control (44_stack_io_control.md sections 2 to 4): IN with and without an answer, the turn of an engine that
waits, one-byte instructions at PC, and the obligations. -/
namespace Sys2Proof

namespace Machine

variable {s : State}

/-! ### IN (R206, R239) -/

theorem exec_inPort_of_answer {port v : Byte} {rest : List Byte} (h : s.hostIn = v :: rest) :
    exec (.inPort port) s =
      .next { s with a := v, hostIn := rest, status := .running, events := s.events ++ [.inHook port] } := by
  simp [exec_inPort, inputByte, State.resumeIn, State.emit, h]

theorem exec_inPort_of_waiting {port : Byte} (h : s.hostIn = []) :
    exec (.inPort port) s = .next { s with status := .blockedIn, events := s.events ++ [.inHook port] } := by
  simp [exec_inPort, inputByte, State.resumeIn, State.emit, h]

/-- A turn of an engine that waits in IN and has an answer: the answer goes to A, and then come the stop checks. -/
theorem iterate_of_answer {single : Bool} {v : Byte} {rest : List Byte} (h : s.status = .blockedIn)
    (hin : s.hostIn = v :: rest) :
    iterate single s = .next (State.stopCheck { s with a := v, hostIn := rest, status := .running } single) := by
  simp [iterate, settle, State.resumeIn, h, hin]

/-! ### A one-byte instruction at PC -/

theorem fetch_of_one_byte {i : Instr} (hi : encode i = [s.readByte s.pc]) (hpc : s.hasByte s.pc) :
    s.fetch = .ok { instr := i, next := s.pc + 1 } := by
  have hlength : (encode i).length = 1 := by rw [hi]; rfl
  have hfetch := fetch_of_encode (s := s) (i := i) fun k hk => by
    obtain rfl : k = 0 := by omega
    exact ⟨by simpa using hpc, by simp [hi]⟩
  rwa [hlength] at hfetch

/-- A turn of an active engine with a one-byte instruction at PC. -/
theorem iterate_of_one_byte {i : Instr} (single : Bool) (hactive : s.active) (hi : encode i = [s.readByte s.pc])
    (hpc : s.hasByte s.pc) :
    iterate single s =
      settle single s.enterRun (exec i { s with pc := s.pc + 1, status := .running, paused := false }) := by
  rw [iterate_of_active hactive, stepOne_of_fetch_ok (s := s.enterRun) (fetch_of_one_byte hi hpc)]
  rfl

end Machine

open Machine

/-! ### The obligations -/

/-- Settles O53: IN asks and, the answer being there, resumes at once. -/
theorem inTakesTheHostsAnswer : Obligations.InTakesTheHostsAnswer := by
  intro port v rest s h
  refine ⟨rfl, _, exec_inPort_of_answer h, rfl, rfl, rfl, rfl, rfl, rfl, rfl, fun _ => rfl, ?_, rfl, rfl, rfl⟩
  exact (keptExcept_setReg s .a v).1

/-- Settles O54: a turn of the waiting engine does nothing without an answer, and takes the answer supplied. -/
theorem inWaitsUntilTheHostAnswers : Obligations.InWaitsUntilTheHostAnswers := by
  intro port v s h
  refine ⟨_, exec_inPort_of_waiting h, rfl, iterate_of_waiting rfl h, ?_⟩
  have hin : State.hostIn (State.supplyInput { s with status := .blockedIn, events := s.events ++ [.inHook port] } v) =
      [v] := by simp [State.supplyInput, h]
  rw [step, iterate_of_answer rfl hin, stopCheck_eq]
  simp [State.supplyInput, State.pause, h]

/-- Settles O55: each of them is one event sent. -/
theorem outAndUnimplementedOpcodesOnlySignal : Obligations.OutAndUnimplementedOpcodesOnlySignal := by
  rintro i bytes ev s (⟨port, rfl, rfl, rfl⟩ | ⟨rfl, rfl, rfl⟩ | ⟨rfl, rfl, rfl⟩ | ⟨rfl, rfl, rfl⟩ | ⟨rfl, rfl, rfl⟩)
  · exact ⟨rfl, exec_outPort _ s⟩
  · exact ⟨rfl, exec_ei s⟩
  · exact ⟨rfl, exec_di s⟩
  · exact ⟨rfl, exec_rim s⟩
  · exact ⟨rfl, exec_sim s⟩

/-- Settles O56: after HLT the status is not Running, so that no stop check applies; after NOP the breakpoint check finds
none. -/
theorem hltStopsAndNopAdvances : Obligations.HltStopsAndNopAdvances := by
  intro single s
  refine ⟨rfl, exec_hlt s, rfl, exec_nop s, fun hactive hpc hop => ?hlt, fun hactive hpc hop hsingle hbp => ?nop⟩
  case hlt =>
    rw [iterate_of_one_byte (i := .hlt) single hactive (by rw [hop]; rfl) hpc, exec_hlt]
    rfl
  case nop =>
    have hno : ¬ (Status.running = .running ∧ (single = true ∨ s.pc + 1 ∈ s.breakpoints)) := by
      rintro ⟨-, htrue | hmem⟩
      · exact Bool.false_ne_true (hsingle.symm.trans htrue)
      · exact hbp hmem
    rw [iterate_of_one_byte (i := .nop) single hactive (by rw [hop]; rfl) hpc, exec_nop, noOperation, settle,
      stopCheck_eq, if_neg hno]

end Sys2Proof
end

section
/-! The controller (60_exceptions.md sections 3 and 4, 70_reset_and_hazards.md section 1): step() and continue() of a paused engine
by what its instruction does, runs as repeated steps, and the obligations. -/
namespace Sys2Proof

namespace Machine

variable {s t : State} {single : Bool} {turns : Nat}

/-! ### The commands of a paused engine (R238) -/

theorem stepCommand_of_paused (hp : s.paused = true) : stepCommand turns s = .ran (run turns true s) := by
  simp [stepCommand, hp]

theorem continueCommand_of_paused (hp : s.paused = true) : continueCommand turns s = .ran (run turns false s) := by
  simp [continueCommand, hp]

/-- When the run comes to the same end single-stepping or not, step() and continue() both answer it. -/
theorem commands_of_run (hp : s.paused = true) (h : ∀ single, run turns single s = .next t) :
    stepCommand turns s = .ran (.next t) ∧ continueCommand turns s = .ran (.next t) :=
  ⟨h true ▸ stepCommand_of_paused hp, h false ▸ continueCommand_of_paused hp⟩

/-- The first turn of a paused engine's run is the instruction at PC, whether or not PC is a breakpoint (R233). -/
theorem run_succ_of_paused (hs : s.status = .paused)
    (h : settle single s.enterRun (stepOne s.enterRun) = .next t) : run (turns + 1) single s = runLoop turns single t := by
  rw [run_of_paused hs]
  exact runLoop_succ rfl ((iterate_of_active (s := s.enterRun) (.inr rfl)).trans h)

theorem run_of_paused_fault {reason : Fault} (hs : s.status = .paused) (h : stepOne s.enterRun = .fault reason) :
    run (turns + 1) single s = .next (s.afterFault reason) := by
  rw [run_succ_of_paused (t := s.afterFault reason) hs (by rw [h]; rfl)]
  exact runLoop_of_returned rfl turns

theorem run_of_paused_halt (hs : s.status = .paused) (h : stepOne s.enterRun = .next t) (ht : t.status = .halted) :
    run (turns + 1) single s = .next t := by
  rw [run_succ_of_paused (t := t) hs (by rw [h, settle, stopCheck_eq]; simp [ht])]
  exact runLoop_of_returned (by simp [State.inRun, ht]) turns

theorem run_of_paused_wait (hs : s.status = .paused) (h : stepOne s.enterRun = .next t) (ht : t.status = .blockedIn)
    (hin : t.hostIn = []) : run (turns + 1) single s = .next t := by
  rw [run_succ_of_paused (t := t) hs (by rw [h, settle, stopCheck_eq]; simp [ht])]
  exact runLoop_of_waiting ht hin turns

/-- An instruction that completed under a single step or at a breakpoint: the engine pauses (R231). -/
theorem run_of_paused_pause (hs : s.status = .paused) (h : stepOne s.enterRun = .next t) (ht : t.status = .running)
    (hstop : single = true ∨ t.pc ∈ t.breakpoints) : run (turns + 1) single s = .next t.pause := by
  rw [run_succ_of_paused (t := t.pause) hs (by rw [h, settle, stopCheck_eq, if_pos ⟨ht, hstop⟩])]
  exact runLoop_of_returned rfl turns

/-- An instruction that completed elsewhere: the run goes on (R231). -/
theorem run_of_paused_goOn (hs : s.status = .paused) (h : stepOne s.enterRun = .next t) (ht : t.status = .running)
    (hno : t.pc ∉ t.breakpoints) : run (turns + 1) false s = run turns false t := by
  rw [run_succ_of_paused (t := t) hs (by rw [h, settle, stopCheck_eq]; simp [hno]), run]
  simp [ht]

/-- The answer to a single-stepped IN completes the step: the engine pauses with the byte in A (R239). -/
theorem run_of_answer_single {v : Byte} (hs : s.status = .blockedIn) (hin : s.hostIn = []) :
    run (turns + 1) true (s.supplyInput v) = .next { s with a := v, status := .paused, paused := true } := by
  have hsupplied : (s.supplyInput v).hostIn = [v] := by simp [State.supplyInput, hin]
  have hblocked : (s.supplyInput v).status = .blockedIn := hs
  have hloop : run (turns + 1) true (s.supplyInput v) = runLoop (turns + 1) true (s.supplyInput v) := by
    simp [run, hblocked]
  rw [hloop, runLoop_succ (by simp [State.inRun, hblocked]) (iterate_of_answer hblocked hsupplied), stopCheck_eq,
    if_pos ⟨rfl, .inl rfl⟩, runLoop_of_returned rfl]
  simp [State.supplyInput, State.pause, hin]

/-! ### Runs as steps (R231) -/

theorem steps_succ {k : Nat} (h : step s = .next t) : steps (k + 1) s = steps k t := by
  simp [steps, h]

theorem runLoop_runsBySteps (turns : Nat) (s : State) : RunsBySteps turns s (runLoop turns false s) := by
  induction turns generalizing s with
  | zero => exact ⟨0, s, rfl, le_rfl, rfl, nofun, .inl rfl⟩
  | succ n ih =>
    cases hrun : s.inRun with
    | false => exact ⟨0, s, runLoop_of_returned hrun _, Nat.zero_le _, rfl, nofun, .inr hrun⟩
    | true =>
      obtain ⟨t, ht⟩ := iterate_total false s
      obtain ⟨k, u, hu, hk, hsteps, hinRun, hend⟩ := ih t
      refine ⟨k + 1, u, (runLoop_succ hrun ht).trans hu, Nat.succ_le_succ hk, (steps_succ ht).trans hsteps, ?_,
        hend.imp_left (congrArg Nat.succ)⟩
      rintro (_ | j) hj
      · exact ⟨s, rfl, hrun⟩
      · obtain ⟨w, hw, hwrun⟩ := hinRun j (Nat.lt_of_succ_lt_succ hj)
        exact ⟨w, (steps_succ ht).trans hw, hwrun⟩

end Machine

open Machine

/-! ### The obligations -/

/-- Settles O58: the first turn of the run is the instruction at PC, and the stop checks after it end the run or not. -/
theorem stepAndContinueOfAPausedEngine : Obligations.StepAndContinueOfAPausedEngine := by
  intro s turns
  refine ⟨fun hp => by simp [stepCommand, continueCommand, hp], fun hp hs => ⟨fun reason hfetch => ?_, ?_⟩⟩
  · exact commands_of_run hp fun _ => run_of_paused_fault hs (stepOne_of_fetch_error (s := s.enterRun) hfetch)
  intro i next hfetch
  have hone : stepOne s.enterRun = exec i { s with pc := next, status := .running, paused := false } :=
    stepOne_of_fetch_ok (s := s.enterRun) hfetch
  refine ⟨fun reason hfault => ?fault, ?halt, ?wait, fun u hu hrunning => ?complete⟩
  case fault => exact commands_of_run hp fun _ => run_of_paused_fault hs (hone.trans hfault)
  case halt =>
    rintro rfl
    exact commands_of_run hp fun _ => run_of_paused_halt hs (hone.trans (exec_hlt _)) rfl
  case wait =>
    rintro port w rfl hin rfl
    obtain ⟨hstep, hcontinue⟩ := commands_of_run hp fun _ =>
      run_of_paused_wait (turns := turns) hs (hone.trans (exec_inPort_of_waiting hin)) rfl hin
    exact ⟨hstep, hcontinue, fun v => run_of_answer_single rfl hin⟩
  case complete =>
    have hstep := run_of_paused_pause (single := true) (turns := turns) hs (hone.trans hu) hrunning (.inl rfl)
    refine ⟨(stepCommand_of_paused hp).trans (congrArg CallReply.ran hstep), ?_⟩
    rw [continueCommand_of_paused hp]
    split
    · next hbp => rw [run_of_paused_pause hs (hone.trans hu) hrunning (.inr hbp)]; rfl
    · next hbp => rw [run_of_paused_goOn hs (hone.trans hu) hrunning hbp]

/-- Settles O59: each field is one of the reset's. -/
theorem resetSetsRegistersAndKeepsMemory : Obligations.ResetSetsRegistersAndKeepsMemory :=
  fun _ => ⟨rfl, rfl, rfl, rfl, rfl, rfl, rfl, rfl, rfl, rfl, rfl, rfl, rfl, rfl, rfl⟩

/-- Settles O60: both calls are the loop, by induction on the turns a step at each. -/
theorem runsAreRepeatedSteps : Obligations.RunsAreRepeatedSteps := by
  intro turns s
  refine ⟨fun start => runLoop_runsBySteps turns _, fun hp hs => ?_⟩
  exact ⟨_, continueCommand_of_paused hp, run_of_paused hs turns false ▸ runLoop_runsBySteps turns _⟩

end Sys2Proof
end
